-- ==== Sys2Proof/Word.lean ====
section
/-!
DEFINITION. The two widths of the machine (R7, R9): bytes on the bus and in the
8-bit registers, 16-bit words for addresses, pairs, SP and PC.
-/

namespace Sys2Proof

/-- `u8` of R9. -/
abbrev Byte := BitVec 8

/-- `u16` of R9. -/
abbrev Word := BitVec 16

end Sys2Proof
end

