-- ==== Sys2Proof/Config.lean ====
section
/-!
DEFINITION. What the implementation fixes (the named parameters of R7 at the
values the spec adopts, log 12) and the free values: constants without a body,
so that no proof can rest on what they are.
-/

namespace Sys2Proof

/-! ### Parameters of R7, each at the value the spec adopts -/

/-- `HALT_IDLE_CYCLES` (D4, C5): the cost of one idle step while halted. -/
def Config.haltIdleCycles : Nat := 1

/-- `INT_DISPATCH_CYCLES` (D5): the cost of an interrupt dispatch. -/
def Config.intDispatchCycles : Nat := 20

/-- `UNUSABLE_READ` (D10): the sentinel of 0xFEA0..0xFEFF. -/
def Config.unusableRead : Byte := 0xFF

/-- What the external-RAM window reads while disabled or absent (R85, D21). -/
def Config.disabledRamRead : Byte := 0xFF

/-- Cycle-units of OAM-search (R334). -/
def Config.oamSearchDots : Nat := 80

/-- Cycle-units of Pixel-transfer (R334). -/
def Config.pixelTransferDots : Nat := 172

/-- Cycle-units per scanline (R334). -/
def Config.dotsPerLine : Nat := 456

/-- Visible scanlines per frame (R334). -/
def Config.visibleLines : Nat := 144

/-- Scanlines per frame, the vertical-blank ones included (R334). -/
def Config.linesPerFrame : Nat := 154

/-- Size of a ROM bank (R85). -/
def Config.romBankSize : Nat := 0x4000

/-- Size of an external-RAM bank (R85). -/
def Config.ramBankSize : Nat := 0x2000

/-! ### What a select write leaves selected on an RTC-backed cartridge -/

/-- What the external-RAM window of an RTC-backed cartridge reaches (R88): one
of four RAM banks, one of the five clock registers (0 seconds, 1 minutes,
2 hours, 3 day-low, 4 day-high), or nothing. -/
inductive ClockSelect where
  | ramBank (b : Fin 4)
  | clock (r : Fin 5)
  | nothing
deriving DecidableEq, Repr, Inhabited

/-! ### Free values -/

/-- FREE VALUE. The byte a RAM or plain I/O address holds before any write has
reached it (R37, D18, K6: `any value`), by bus address; log 2. -/
opaque Config.unwrittenByte : Nat → Byte

/-- FREE VALUE. The ROM image given to `power_on` (R90, D14: OPEN), by image
index, where the state lists no byte; log 3. -/
opaque Config.romImage : Nat → Byte

/-- FREE VALUE. Cartridge RAM before any write (R350: unspecified), by chip
index; log 5. -/
opaque Config.unwrittenCartRam : Nat → Byte

/-- FREE VALUE. The clock registers at power-on (R350: unspecified), by
register number; log 6. -/
opaque Config.clockAtPowerOn : Nat → Byte

/-- FREE VALUE. What the live clock register `reg` has become by latch number
`n` when it last held `last` (R88, K23: an `any value` input); log 6. -/
opaque Config.clockNow (n reg : Nat) (last : Byte) : Byte

/-- FREE VALUE. The selection left by writing to the select window of an
RTC-backed cartridge a value R88 does not list, from the selection before;
log 9. -/
opaque Config.unlistedSelect (before : ClockSelect) (written : Byte) : ClockSelect

/-- FREE VALUE. Whether the line compare of R312 also counts in the ten
vertical-blank scanlines, which are no visible scanlines; log 17. -/
opaque Config.lineCompareInVblank : Bool

end Sys2Proof
end

