-- ==== Sys2Proof/Syntax.lean ====
section
/-!
DEFINITION. The instruction set as syntax: the field codes of R113 to R118 as
small enumerations, and `Instr`, one constructor per row of
spec/opcode_table.json, in the table's order (R116, R120, R121) but for the
undefined bytes, which come last, carrying the operand bytes that follow the
opcode. Register numbers and operation codes are
in the constructor, so the machine never sees a raw encoding.
-/

namespace Sys2Proof

/-- The seven 8-bit registers an opcode can name (R113, codes 0..5 and 7). -/
inductive Reg where
  | b | c | d | e | h | l | a
deriving DecidableEq, Repr

/-- The 3-bit operand code `r8` of R113: a register, or for code 6 the byte at
the address in `HL`. -/
inductive R8 where
  | reg (r : Reg)
  | atHL
deriving DecidableEq, Repr

/-- The 2-bit pair code `rp` of R114. -/
inductive RP where
  | bc | de | hl | sp
deriving DecidableEq, Repr

/-- The 2-bit pair code `rp2` of R114 (`PUSH`, `POP`). -/
inductive RP2 where
  | bc | de | hl | af
deriving DecidableEq, Repr

/-- The 2-bit condition code of R115. -/
inductive Cond where
  | nz | z | nc | c
deriving DecidableEq, Repr

/-- The 3-bit accumulator operation code of R117. -/
inductive AluOp where
  | add | adc | sub | sbc | and | xor | or | cp
deriving DecidableEq, Repr

/-- The 3-bit rotate and shift code of R117. -/
inductive RotOp where
  | rlc | rrc | rl | rr | sla | sra | swap | srl
deriving DecidableEq, Repr

/-- A 3-bit number: the bit index `b` of `BIT`, `RES`, `SET` and the restart
number of `RST` (R118). -/
inductive Index3 where
  | i0 | i1 | i2 | i3 | i4 | i5 | i6 | i7
deriving DecidableEq, Repr

/-- The number an `Index3` stands for. -/
def Index3.toNat : Index3 → Nat
  | .i0 => 0 | .i1 => 1 | .i2 => 2 | .i3 => 3
  | .i4 => 4 | .i5 => 5 | .i6 => 6 | .i7 => 7

/-- The instructions, one constructor per row of spec/opcode_table.json. -/
inductive Instr where
  /-- `NOP`, 0x00, R280. -/
  | nop
  /-- `LD BC,nn`, 0x01, R170. -/
  | ldBCNn (nn : Word)
  /-- `LD (BC),A`, 0x02, R147. -/
  | ldAtBCA
  /-- `INC BC`, 0x03, R221. -/
  | incBC
  /-- `INC B`, 0x04, R199. -/
  | incB
  /-- `DEC B`, 0x05, R201. -/
  | decB
  /-- `LD B,n`, 0x06, R141. -/
  | ldBN (n : Byte)
  /-- `RLCA`, 0x07, R230. -/
  | rlca
  /-- `LD (nn),SP`, 0x08, R171. -/
  | ldAtNnSP (nn : Word)
  /-- `ADD HL,BC`, 0x09, R220. -/
  | addHLBC
  /-- `LD A,(BC)`, 0x0A, R145. -/
  | ldAAtBC
  /-- `DEC BC`, 0x0B, R222. -/
  | decBC
  /-- `INC C`, 0x0C, R199. -/
  | incC
  /-- `DEC C`, 0x0D, R201. -/
  | decC
  /-- `LD C,n`, 0x0E, R141. -/
  | ldCN (n : Byte)
  /-- `RRCA`, 0x0F, R231. -/
  | rrca
  /-- `STOP`, 0x10, R283. -/
  | stop (n : Byte)
  /-- `LD DE,nn`, 0x11, R170. -/
  | ldDENn (nn : Word)
  /-- `LD (DE),A`, 0x12, R148. -/
  | ldAtDEA
  /-- `INC DE`, 0x13, R221. -/
  | incDE
  /-- `INC D`, 0x14, R199. -/
  | incD
  /-- `DEC D`, 0x15, R201. -/
  | decD
  /-- `LD D,n`, 0x16, R141. -/
  | ldDN (n : Byte)
  /-- `RLA`, 0x17, R232. -/
  | rla
  /-- `JR e`, 0x18, R263. -/
  | jrE (e : Byte)
  /-- `ADD HL,DE`, 0x19, R220. -/
  | addHLDE
  /-- `LD A,(DE)`, 0x1A, R146. -/
  | ldAAtDE
  /-- `DEC DE`, 0x1B, R222. -/
  | decDE
  /-- `INC E`, 0x1C, R199. -/
  | incE
  /-- `DEC E`, 0x1D, R201. -/
  | decE
  /-- `LD E,n`, 0x1E, R141. -/
  | ldEN (n : Byte)
  /-- `RRA`, 0x1F, R233. -/
  | rra
  /-- `JR NZ,e`, 0x20, R264. -/
  | jrNZE (e : Byte)
  /-- `LD HL,nn`, 0x21, R170. -/
  | ldHLNn (nn : Word)
  /-- `LD (HL+),A`, 0x22, R155. -/
  | ldAtHLIncA
  /-- `INC HL`, 0x23, R221. -/
  | incHL
  /-- `INC H`, 0x24, R199. -/
  | incH
  /-- `DEC H`, 0x25, R201. -/
  | decH
  /-- `LD H,n`, 0x26, R141. -/
  | ldHN (n : Byte)
  /-- `DAA`, 0x27, R203. -/
  | daa
  /-- `JR Z,e`, 0x28, R264. -/
  | jrZE (e : Byte)
  /-- `ADD HL,HL`, 0x29, R220. -/
  | addHLHL
  /-- `LD A,(HL+)`, 0x2A, R156. -/
  | ldAAtHLInc
  /-- `DEC HL`, 0x2B, R222. -/
  | decHL
  /-- `INC L`, 0x2C, R199. -/
  | incL
  /-- `DEC L`, 0x2D, R201. -/
  | decL
  /-- `LD L,n`, 0x2E, R141. -/
  | ldLN (n : Byte)
  /-- `CPL`, 0x2F, R204. -/
  | cpl
  /-- `JR NC,e`, 0x30, R264. -/
  | jrNCE (e : Byte)
  /-- `LD SP,nn`, 0x31, R170. -/
  | ldSPNn (nn : Word)
  /-- `LD (HL-),A`, 0x32, R157. -/
  | ldAtHLDecA
  /-- `INC SP`, 0x33, R221. -/
  | incSP
  /-- `INC (HL)`, 0x34, R200. -/
  | incAtHL
  /-- `DEC (HL)`, 0x35, R202. -/
  | decAtHL
  /-- `LD (HL),n`, 0x36, R144. -/
  | ldAtHLN (n : Byte)
  /-- `SCF`, 0x37, R205. -/
  | scf
  /-- `JR C,e`, 0x38, R264. -/
  | jrCE (e : Byte)
  /-- `ADD HL,SP`, 0x39, R220. -/
  | addHLSP
  /-- `LD A,(HL-)`, 0x3A, R158. -/
  | ldAAtHLDec
  /-- `DEC SP`, 0x3B, R222. -/
  | decSP
  /-- `INC A`, 0x3C, R199. -/
  | incA
  /-- `DEC A`, 0x3D, R201. -/
  | decA
  /-- `LD A,n`, 0x3E, R141. -/
  | ldAN (n : Byte)
  /-- `CCF`, 0x3F, R206. -/
  | ccf
  /-- `LD B,B`, 0x40, R140. -/
  | ldBB
  /-- `LD B,C`, 0x41, R140. -/
  | ldBC
  /-- `LD B,D`, 0x42, R140. -/
  | ldBD
  /-- `LD B,E`, 0x43, R140. -/
  | ldBE
  /-- `LD B,H`, 0x44, R140. -/
  | ldBH
  /-- `LD B,L`, 0x45, R140. -/
  | ldBL
  /-- `LD B,(HL)`, 0x46, R142. -/
  | ldBAtHL
  /-- `LD B,A`, 0x47, R140. -/
  | ldBA
  /-- `LD C,B`, 0x48, R140. -/
  | ldCB
  /-- `LD C,C`, 0x49, R140. -/
  | ldCC
  /-- `LD C,D`, 0x4A, R140. -/
  | ldCD
  /-- `LD C,E`, 0x4B, R140. -/
  | ldCE
  /-- `LD C,H`, 0x4C, R140. -/
  | ldCH
  /-- `LD C,L`, 0x4D, R140. -/
  | ldCL
  /-- `LD C,(HL)`, 0x4E, R142. -/
  | ldCAtHL
  /-- `LD C,A`, 0x4F, R140. -/
  | ldCA
  /-- `LD D,B`, 0x50, R140. -/
  | ldDB
  /-- `LD D,C`, 0x51, R140. -/
  | ldDC
  /-- `LD D,D`, 0x52, R140. -/
  | ldDD
  /-- `LD D,E`, 0x53, R140. -/
  | ldDE
  /-- `LD D,H`, 0x54, R140. -/
  | ldDH
  /-- `LD D,L`, 0x55, R140. -/
  | ldDL
  /-- `LD D,(HL)`, 0x56, R142. -/
  | ldDAtHL
  /-- `LD D,A`, 0x57, R140. -/
  | ldDA
  /-- `LD E,B`, 0x58, R140. -/
  | ldEB
  /-- `LD E,C`, 0x59, R140. -/
  | ldEC
  /-- `LD E,D`, 0x5A, R140. -/
  | ldED
  /-- `LD E,E`, 0x5B, R140. -/
  | ldEE
  /-- `LD E,H`, 0x5C, R140. -/
  | ldEH
  /-- `LD E,L`, 0x5D, R140. -/
  | ldEL
  /-- `LD E,(HL)`, 0x5E, R142. -/
  | ldEAtHL
  /-- `LD E,A`, 0x5F, R140. -/
  | ldEA
  /-- `LD H,B`, 0x60, R140. -/
  | ldHB
  /-- `LD H,C`, 0x61, R140. -/
  | ldHC
  /-- `LD H,D`, 0x62, R140. -/
  | ldHD
  /-- `LD H,E`, 0x63, R140. -/
  | ldHE
  /-- `LD H,H`, 0x64, R140. -/
  | ldHH
  /-- `LD H,L`, 0x65, R140. -/
  | ldHL
  /-- `LD H,(HL)`, 0x66, R142. -/
  | ldHAtHL
  /-- `LD H,A`, 0x67, R140. -/
  | ldHA
  /-- `LD L,B`, 0x68, R140. -/
  | ldLB
  /-- `LD L,C`, 0x69, R140. -/
  | ldLC
  /-- `LD L,D`, 0x6A, R140. -/
  | ldLD
  /-- `LD L,E`, 0x6B, R140. -/
  | ldLE
  /-- `LD L,H`, 0x6C, R140. -/
  | ldLH
  /-- `LD L,L`, 0x6D, R140. -/
  | ldLL
  /-- `LD L,(HL)`, 0x6E, R142. -/
  | ldLAtHL
  /-- `LD L,A`, 0x6F, R140. -/
  | ldLA
  /-- `LD (HL),B`, 0x70, R143. -/
  | ldAtHLB
  /-- `LD (HL),C`, 0x71, R143. -/
  | ldAtHLC
  /-- `LD (HL),D`, 0x72, R143. -/
  | ldAtHLD
  /-- `LD (HL),E`, 0x73, R143. -/
  | ldAtHLE
  /-- `LD (HL),H`, 0x74, R143. -/
  | ldAtHLH
  /-- `LD (HL),L`, 0x75, R143. -/
  | ldAtHLL
  /-- `HALT`, 0x76, R282. -/
  | halt
  /-- `LD (HL),A`, 0x77, R143. -/
  | ldAtHLA
  /-- `LD A,B`, 0x78, R140. -/
  | ldAB
  /-- `LD A,C`, 0x79, R140. -/
  | ldAC
  /-- `LD A,D`, 0x7A, R140. -/
  | ldAD
  /-- `LD A,E`, 0x7B, R140. -/
  | ldAE
  /-- `LD A,H`, 0x7C, R140. -/
  | ldAH
  /-- `LD A,L`, 0x7D, R140. -/
  | ldAL
  /-- `LD A,(HL)`, 0x7E, R142. -/
  | ldAAtHL
  /-- `LD A,A`, 0x7F, R140. -/
  | ldAA
  /-- `ADD A,B`, 0x80, R191. -/
  | addAB
  /-- `ADD A,C`, 0x81, R191. -/
  | addAC
  /-- `ADD A,D`, 0x82, R191. -/
  | addAD
  /-- `ADD A,E`, 0x83, R191. -/
  | addAE
  /-- `ADD A,H`, 0x84, R191. -/
  | addAH
  /-- `ADD A,L`, 0x85, R191. -/
  | addAL
  /-- `ADD A,(HL)`, 0x86, R191. -/
  | addAAtHL
  /-- `ADD A,A`, 0x87, R191. -/
  | addAA
  /-- `ADC A,B`, 0x88, R192. -/
  | adcAB
  /-- `ADC A,C`, 0x89, R192. -/
  | adcAC
  /-- `ADC A,D`, 0x8A, R192. -/
  | adcAD
  /-- `ADC A,E`, 0x8B, R192. -/
  | adcAE
  /-- `ADC A,H`, 0x8C, R192. -/
  | adcAH
  /-- `ADC A,L`, 0x8D, R192. -/
  | adcAL
  /-- `ADC A,(HL)`, 0x8E, R192. -/
  | adcAAtHL
  /-- `ADC A,A`, 0x8F, R192. -/
  | adcAA
  /-- `SUB B`, 0x90, R193. -/
  | subB
  /-- `SUB C`, 0x91, R193. -/
  | subC
  /-- `SUB D`, 0x92, R193. -/
  | subD
  /-- `SUB E`, 0x93, R193. -/
  | subE
  /-- `SUB H`, 0x94, R193. -/
  | subH
  /-- `SUB L`, 0x95, R193. -/
  | subL
  /-- `SUB (HL)`, 0x96, R193. -/
  | subAtHL
  /-- `SUB A`, 0x97, R193. -/
  | subA
  /-- `SBC A,B`, 0x98, R194. -/
  | sbcAB
  /-- `SBC A,C`, 0x99, R194. -/
  | sbcAC
  /-- `SBC A,D`, 0x9A, R194. -/
  | sbcAD
  /-- `SBC A,E`, 0x9B, R194. -/
  | sbcAE
  /-- `SBC A,H`, 0x9C, R194. -/
  | sbcAH
  /-- `SBC A,L`, 0x9D, R194. -/
  | sbcAL
  /-- `SBC A,(HL)`, 0x9E, R194. -/
  | sbcAAtHL
  /-- `SBC A,A`, 0x9F, R194. -/
  | sbcAA
  /-- `AND B`, 0xA0, R195. -/
  | andB
  /-- `AND C`, 0xA1, R195. -/
  | andC
  /-- `AND D`, 0xA2, R195. -/
  | andD
  /-- `AND E`, 0xA3, R195. -/
  | andE
  /-- `AND H`, 0xA4, R195. -/
  | andH
  /-- `AND L`, 0xA5, R195. -/
  | andL
  /-- `AND (HL)`, 0xA6, R195. -/
  | andAtHL
  /-- `AND A`, 0xA7, R195. -/
  | andA
  /-- `XOR B`, 0xA8, R196. -/
  | xorB
  /-- `XOR C`, 0xA9, R196. -/
  | xorC
  /-- `XOR D`, 0xAA, R196. -/
  | xorD
  /-- `XOR E`, 0xAB, R196. -/
  | xorE
  /-- `XOR H`, 0xAC, R196. -/
  | xorH
  /-- `XOR L`, 0xAD, R196. -/
  | xorL
  /-- `XOR (HL)`, 0xAE, R196. -/
  | xorAtHL
  /-- `XOR A`, 0xAF, R196. -/
  | xorA
  /-- `OR B`, 0xB0, R197. -/
  | orB
  /-- `OR C`, 0xB1, R197. -/
  | orC
  /-- `OR D`, 0xB2, R197. -/
  | orD
  /-- `OR E`, 0xB3, R197. -/
  | orE
  /-- `OR H`, 0xB4, R197. -/
  | orH
  /-- `OR L`, 0xB5, R197. -/
  | orL
  /-- `OR (HL)`, 0xB6, R197. -/
  | orAtHL
  /-- `OR A`, 0xB7, R197. -/
  | orA
  /-- `CP B`, 0xB8, R198. -/
  | cpB
  /-- `CP C`, 0xB9, R198. -/
  | cpC
  /-- `CP D`, 0xBA, R198. -/
  | cpD
  /-- `CP E`, 0xBB, R198. -/
  | cpE
  /-- `CP H`, 0xBC, R198. -/
  | cpH
  /-- `CP L`, 0xBD, R198. -/
  | cpL
  /-- `CP (HL)`, 0xBE, R198. -/
  | cpAtHL
  /-- `CP A`, 0xBF, R198. -/
  | cpA
  /-- `RET NZ`, 0xC0, R268. -/
  | retNZ
  /-- `POP BC`, 0xC1, R176. -/
  | popBC
  /-- `JP NZ,nn`, 0xC2, R261. -/
  | jpNZNn (nn : Word)
  /-- `JP nn`, 0xC3, R260. -/
  | jpNn (nn : Word)
  /-- `CALL NZ,nn`, 0xC4, R266. -/
  | callNZNn (nn : Word)
  /-- `PUSH BC`, 0xC5, R175. -/
  | pushBC
  /-- `ADD A,n`, 0xC6, R191. -/
  | addAN (n : Byte)
  /-- `RST 0x00`, 0xC7, R270. -/
  | rst00
  /-- `RET Z`, 0xC8, R268. -/
  | retZ
  /-- `RET`, 0xC9, R267. -/
  | ret
  /-- `JP Z,nn`, 0xCA, R261. -/
  | jpZNn (nn : Word)
  /-- `PREFIX CB`, 0xCB, R281. -/
  | prefixCB (op2 : Byte)
  /-- `CALL Z,nn`, 0xCC, R266. -/
  | callZNn (nn : Word)
  /-- `CALL nn`, 0xCD, R265. -/
  | callNn (nn : Word)
  /-- `ADC A,n`, 0xCE, R192. -/
  | adcAN (n : Byte)
  /-- `RST 0x08`, 0xCF, R270. -/
  | rst08
  /-- `RET NC`, 0xD0, R268. -/
  | retNC
  /-- `POP DE`, 0xD1, R176. -/
  | popDE
  /-- `JP NC,nn`, 0xD2, R261. -/
  | jpNCNn (nn : Word)
  /-- `CALL NC,nn`, 0xD4, R266. -/
  | callNCNn (nn : Word)
  /-- `PUSH DE`, 0xD5, R175. -/
  | pushDE
  /-- `SUB n`, 0xD6, R193. -/
  | subN (n : Byte)
  /-- `RST 0x10`, 0xD7, R270. -/
  | rst10
  /-- `RET C`, 0xD8, R268. -/
  | retC
  /-- `RETI`, 0xD9, R269. -/
  | reti
  /-- `JP C,nn`, 0xDA, R261. -/
  | jpCNn (nn : Word)
  /-- `CALL C,nn`, 0xDC, R266. -/
  | callCNn (nn : Word)
  /-- `SBC A,n`, 0xDE, R194. -/
  | sbcAN (n : Byte)
  /-- `RST 0x18`, 0xDF, R270. -/
  | rst18
  /-- `LDH (n),A`, 0xE0, R152. -/
  | ldhAtNA (n : Byte)
  /-- `POP HL`, 0xE1, R176. -/
  | popHL
  /-- `LDH (C),A`, 0xE2, R153. -/
  | ldhAtCA
  /-- `PUSH HL`, 0xE5, R175. -/
  | pushHL
  /-- `AND n`, 0xE6, R195. -/
  | andN (n : Byte)
  /-- `RST 0x20`, 0xE7, R270. -/
  | rst20
  /-- `ADD SP,e`, 0xE8, R223. -/
  | addSPE (e : Byte)
  /-- `JP HL`, 0xE9, R262. -/
  | jpHL
  /-- `LD (nn),A`, 0xEA, R150. -/
  | ldAtNnA (nn : Word)
  /-- `XOR n`, 0xEE, R196. -/
  | xorN (n : Byte)
  /-- `RST 0x28`, 0xEF, R270. -/
  | rst28
  /-- `LDH A,(n)`, 0xF0, R151. -/
  | ldhAAtN (n : Byte)
  /-- `POP AF`, 0xF1, R176. -/
  | popAF
  /-- `LDH A,(C)`, 0xF2, R154. -/
  | ldhAAtC
  /-- `DI`, 0xF3, R284. -/
  | di
  /-- `PUSH AF`, 0xF5, R175. -/
  | pushAF
  /-- `OR n`, 0xF6, R197. -/
  | orN (n : Byte)
  /-- `RST 0x30`, 0xF7, R270. -/
  | rst30
  /-- `LD HL,SP+e`, 0xF8, R173. -/
  | ldHLSPE (e : Byte)
  /-- `LD SP,HL`, 0xF9, R172. -/
  | ldSPHL
  /-- `LD A,(nn)`, 0xFA, R149. -/
  | ldAAtNn (nn : Word)
  /-- `EI`, 0xFB, R285. -/
  | ei
  /-- `CP n`, 0xFE, R198. -/
  | cpN (n : Byte)
  /-- `RST 0x38`, 0xFF, R270. -/
  | rst38
  /-- `RLC B`, 0xCB 0x00, R235. -/
  | rlcB
  /-- `RLC C`, 0xCB 0x01, R235. -/
  | rlcC
  /-- `RLC D`, 0xCB 0x02, R235. -/
  | rlcD
  /-- `RLC E`, 0xCB 0x03, R235. -/
  | rlcE
  /-- `RLC H`, 0xCB 0x04, R235. -/
  | rlcH
  /-- `RLC L`, 0xCB 0x05, R235. -/
  | rlcL
  /-- `RLC (HL)`, 0xCB 0x06, R235. -/
  | rlcAtHL
  /-- `RLC A`, 0xCB 0x07, R235. -/
  | rlcA
  /-- `RRC B`, 0xCB 0x08, R236. -/
  | rrcB
  /-- `RRC C`, 0xCB 0x09, R236. -/
  | rrcC
  /-- `RRC D`, 0xCB 0x0A, R236. -/
  | rrcD
  /-- `RRC E`, 0xCB 0x0B, R236. -/
  | rrcE
  /-- `RRC H`, 0xCB 0x0C, R236. -/
  | rrcH
  /-- `RRC L`, 0xCB 0x0D, R236. -/
  | rrcL
  /-- `RRC (HL)`, 0xCB 0x0E, R236. -/
  | rrcAtHL
  /-- `RRC A`, 0xCB 0x0F, R236. -/
  | rrcA
  /-- `RL B`, 0xCB 0x10, R237. -/
  | rlB
  /-- `RL C`, 0xCB 0x11, R237. -/
  | rlC
  /-- `RL D`, 0xCB 0x12, R237. -/
  | rlD
  /-- `RL E`, 0xCB 0x13, R237. -/
  | rlE
  /-- `RL H`, 0xCB 0x14, R237. -/
  | rlH
  /-- `RL L`, 0xCB 0x15, R237. -/
  | rlL
  /-- `RL (HL)`, 0xCB 0x16, R237. -/
  | rlAtHL
  /-- `RL A`, 0xCB 0x17, R237. -/
  | rlA
  /-- `RR B`, 0xCB 0x18, R238. -/
  | rrB
  /-- `RR C`, 0xCB 0x19, R238. -/
  | rrC
  /-- `RR D`, 0xCB 0x1A, R238. -/
  | rrD
  /-- `RR E`, 0xCB 0x1B, R238. -/
  | rrE
  /-- `RR H`, 0xCB 0x1C, R238. -/
  | rrH
  /-- `RR L`, 0xCB 0x1D, R238. -/
  | rrL
  /-- `RR (HL)`, 0xCB 0x1E, R238. -/
  | rrAtHL
  /-- `RR A`, 0xCB 0x1F, R238. -/
  | rrA
  /-- `SLA B`, 0xCB 0x20, R239. -/
  | slaB
  /-- `SLA C`, 0xCB 0x21, R239. -/
  | slaC
  /-- `SLA D`, 0xCB 0x22, R239. -/
  | slaD
  /-- `SLA E`, 0xCB 0x23, R239. -/
  | slaE
  /-- `SLA H`, 0xCB 0x24, R239. -/
  | slaH
  /-- `SLA L`, 0xCB 0x25, R239. -/
  | slaL
  /-- `SLA (HL)`, 0xCB 0x26, R239. -/
  | slaAtHL
  /-- `SLA A`, 0xCB 0x27, R239. -/
  | slaA
  /-- `SRA B`, 0xCB 0x28, R240. -/
  | sraB
  /-- `SRA C`, 0xCB 0x29, R240. -/
  | sraC
  /-- `SRA D`, 0xCB 0x2A, R240. -/
  | sraD
  /-- `SRA E`, 0xCB 0x2B, R240. -/
  | sraE
  /-- `SRA H`, 0xCB 0x2C, R240. -/
  | sraH
  /-- `SRA L`, 0xCB 0x2D, R240. -/
  | sraL
  /-- `SRA (HL)`, 0xCB 0x2E, R240. -/
  | sraAtHL
  /-- `SRA A`, 0xCB 0x2F, R240. -/
  | sraA
  /-- `SWAP B`, 0xCB 0x30, R241. -/
  | swapB
  /-- `SWAP C`, 0xCB 0x31, R241. -/
  | swapC
  /-- `SWAP D`, 0xCB 0x32, R241. -/
  | swapD
  /-- `SWAP E`, 0xCB 0x33, R241. -/
  | swapE
  /-- `SWAP H`, 0xCB 0x34, R241. -/
  | swapH
  /-- `SWAP L`, 0xCB 0x35, R241. -/
  | swapL
  /-- `SWAP (HL)`, 0xCB 0x36, R241. -/
  | swapAtHL
  /-- `SWAP A`, 0xCB 0x37, R241. -/
  | swapA
  /-- `SRL B`, 0xCB 0x38, R242. -/
  | srlB
  /-- `SRL C`, 0xCB 0x39, R242. -/
  | srlC
  /-- `SRL D`, 0xCB 0x3A, R242. -/
  | srlD
  /-- `SRL E`, 0xCB 0x3B, R242. -/
  | srlE
  /-- `SRL H`, 0xCB 0x3C, R242. -/
  | srlH
  /-- `SRL L`, 0xCB 0x3D, R242. -/
  | srlL
  /-- `SRL (HL)`, 0xCB 0x3E, R242. -/
  | srlAtHL
  /-- `SRL A`, 0xCB 0x3F, R242. -/
  | srlA
  /-- `BIT 0,B`, 0xCB 0x40, R243. -/
  | bit0B
  /-- `BIT 0,C`, 0xCB 0x41, R243. -/
  | bit0C
  /-- `BIT 0,D`, 0xCB 0x42, R243. -/
  | bit0D
  /-- `BIT 0,E`, 0xCB 0x43, R243. -/
  | bit0E
  /-- `BIT 0,H`, 0xCB 0x44, R243. -/
  | bit0H
  /-- `BIT 0,L`, 0xCB 0x45, R243. -/
  | bit0L
  /-- `BIT 0,(HL)`, 0xCB 0x46, R243. -/
  | bit0AtHL
  /-- `BIT 0,A`, 0xCB 0x47, R243. -/
  | bit0A
  /-- `BIT 1,B`, 0xCB 0x48, R243. -/
  | bit1B
  /-- `BIT 1,C`, 0xCB 0x49, R243. -/
  | bit1C
  /-- `BIT 1,D`, 0xCB 0x4A, R243. -/
  | bit1D
  /-- `BIT 1,E`, 0xCB 0x4B, R243. -/
  | bit1E
  /-- `BIT 1,H`, 0xCB 0x4C, R243. -/
  | bit1H
  /-- `BIT 1,L`, 0xCB 0x4D, R243. -/
  | bit1L
  /-- `BIT 1,(HL)`, 0xCB 0x4E, R243. -/
  | bit1AtHL
  /-- `BIT 1,A`, 0xCB 0x4F, R243. -/
  | bit1A
  /-- `BIT 2,B`, 0xCB 0x50, R243. -/
  | bit2B
  /-- `BIT 2,C`, 0xCB 0x51, R243. -/
  | bit2C
  /-- `BIT 2,D`, 0xCB 0x52, R243. -/
  | bit2D
  /-- `BIT 2,E`, 0xCB 0x53, R243. -/
  | bit2E
  /-- `BIT 2,H`, 0xCB 0x54, R243. -/
  | bit2H
  /-- `BIT 2,L`, 0xCB 0x55, R243. -/
  | bit2L
  /-- `BIT 2,(HL)`, 0xCB 0x56, R243. -/
  | bit2AtHL
  /-- `BIT 2,A`, 0xCB 0x57, R243. -/
  | bit2A
  /-- `BIT 3,B`, 0xCB 0x58, R243. -/
  | bit3B
  /-- `BIT 3,C`, 0xCB 0x59, R243. -/
  | bit3C
  /-- `BIT 3,D`, 0xCB 0x5A, R243. -/
  | bit3D
  /-- `BIT 3,E`, 0xCB 0x5B, R243. -/
  | bit3E
  /-- `BIT 3,H`, 0xCB 0x5C, R243. -/
  | bit3H
  /-- `BIT 3,L`, 0xCB 0x5D, R243. -/
  | bit3L
  /-- `BIT 3,(HL)`, 0xCB 0x5E, R243. -/
  | bit3AtHL
  /-- `BIT 3,A`, 0xCB 0x5F, R243. -/
  | bit3A
  /-- `BIT 4,B`, 0xCB 0x60, R243. -/
  | bit4B
  /-- `BIT 4,C`, 0xCB 0x61, R243. -/
  | bit4C
  /-- `BIT 4,D`, 0xCB 0x62, R243. -/
  | bit4D
  /-- `BIT 4,E`, 0xCB 0x63, R243. -/
  | bit4E
  /-- `BIT 4,H`, 0xCB 0x64, R243. -/
  | bit4H
  /-- `BIT 4,L`, 0xCB 0x65, R243. -/
  | bit4L
  /-- `BIT 4,(HL)`, 0xCB 0x66, R243. -/
  | bit4AtHL
  /-- `BIT 4,A`, 0xCB 0x67, R243. -/
  | bit4A
  /-- `BIT 5,B`, 0xCB 0x68, R243. -/
  | bit5B
  /-- `BIT 5,C`, 0xCB 0x69, R243. -/
  | bit5C
  /-- `BIT 5,D`, 0xCB 0x6A, R243. -/
  | bit5D
  /-- `BIT 5,E`, 0xCB 0x6B, R243. -/
  | bit5E
  /-- `BIT 5,H`, 0xCB 0x6C, R243. -/
  | bit5H
  /-- `BIT 5,L`, 0xCB 0x6D, R243. -/
  | bit5L
  /-- `BIT 5,(HL)`, 0xCB 0x6E, R243. -/
  | bit5AtHL
  /-- `BIT 5,A`, 0xCB 0x6F, R243. -/
  | bit5A
  /-- `BIT 6,B`, 0xCB 0x70, R243. -/
  | bit6B
  /-- `BIT 6,C`, 0xCB 0x71, R243. -/
  | bit6C
  /-- `BIT 6,D`, 0xCB 0x72, R243. -/
  | bit6D
  /-- `BIT 6,E`, 0xCB 0x73, R243. -/
  | bit6E
  /-- `BIT 6,H`, 0xCB 0x74, R243. -/
  | bit6H
  /-- `BIT 6,L`, 0xCB 0x75, R243. -/
  | bit6L
  /-- `BIT 6,(HL)`, 0xCB 0x76, R243. -/
  | bit6AtHL
  /-- `BIT 6,A`, 0xCB 0x77, R243. -/
  | bit6A
  /-- `BIT 7,B`, 0xCB 0x78, R243. -/
  | bit7B
  /-- `BIT 7,C`, 0xCB 0x79, R243. -/
  | bit7C
  /-- `BIT 7,D`, 0xCB 0x7A, R243. -/
  | bit7D
  /-- `BIT 7,E`, 0xCB 0x7B, R243. -/
  | bit7E
  /-- `BIT 7,H`, 0xCB 0x7C, R243. -/
  | bit7H
  /-- `BIT 7,L`, 0xCB 0x7D, R243. -/
  | bit7L
  /-- `BIT 7,(HL)`, 0xCB 0x7E, R243. -/
  | bit7AtHL
  /-- `BIT 7,A`, 0xCB 0x7F, R243. -/
  | bit7A
  /-- `RES 0,B`, 0xCB 0x80, R244. -/
  | res0B
  /-- `RES 0,C`, 0xCB 0x81, R244. -/
  | res0C
  /-- `RES 0,D`, 0xCB 0x82, R244. -/
  | res0D
  /-- `RES 0,E`, 0xCB 0x83, R244. -/
  | res0E
  /-- `RES 0,H`, 0xCB 0x84, R244. -/
  | res0H
  /-- `RES 0,L`, 0xCB 0x85, R244. -/
  | res0L
  /-- `RES 0,(HL)`, 0xCB 0x86, R244. -/
  | res0AtHL
  /-- `RES 0,A`, 0xCB 0x87, R244. -/
  | res0A
  /-- `RES 1,B`, 0xCB 0x88, R244. -/
  | res1B
  /-- `RES 1,C`, 0xCB 0x89, R244. -/
  | res1C
  /-- `RES 1,D`, 0xCB 0x8A, R244. -/
  | res1D
  /-- `RES 1,E`, 0xCB 0x8B, R244. -/
  | res1E
  /-- `RES 1,H`, 0xCB 0x8C, R244. -/
  | res1H
  /-- `RES 1,L`, 0xCB 0x8D, R244. -/
  | res1L
  /-- `RES 1,(HL)`, 0xCB 0x8E, R244. -/
  | res1AtHL
  /-- `RES 1,A`, 0xCB 0x8F, R244. -/
  | res1A
  /-- `RES 2,B`, 0xCB 0x90, R244. -/
  | res2B
  /-- `RES 2,C`, 0xCB 0x91, R244. -/
  | res2C
  /-- `RES 2,D`, 0xCB 0x92, R244. -/
  | res2D
  /-- `RES 2,E`, 0xCB 0x93, R244. -/
  | res2E
  /-- `RES 2,H`, 0xCB 0x94, R244. -/
  | res2H
  /-- `RES 2,L`, 0xCB 0x95, R244. -/
  | res2L
  /-- `RES 2,(HL)`, 0xCB 0x96, R244. -/
  | res2AtHL
  /-- `RES 2,A`, 0xCB 0x97, R244. -/
  | res2A
  /-- `RES 3,B`, 0xCB 0x98, R244. -/
  | res3B
  /-- `RES 3,C`, 0xCB 0x99, R244. -/
  | res3C
  /-- `RES 3,D`, 0xCB 0x9A, R244. -/
  | res3D
  /-- `RES 3,E`, 0xCB 0x9B, R244. -/
  | res3E
  /-- `RES 3,H`, 0xCB 0x9C, R244. -/
  | res3H
  /-- `RES 3,L`, 0xCB 0x9D, R244. -/
  | res3L
  /-- `RES 3,(HL)`, 0xCB 0x9E, R244. -/
  | res3AtHL
  /-- `RES 3,A`, 0xCB 0x9F, R244. -/
  | res3A
  /-- `RES 4,B`, 0xCB 0xA0, R244. -/
  | res4B
  /-- `RES 4,C`, 0xCB 0xA1, R244. -/
  | res4C
  /-- `RES 4,D`, 0xCB 0xA2, R244. -/
  | res4D
  /-- `RES 4,E`, 0xCB 0xA3, R244. -/
  | res4E
  /-- `RES 4,H`, 0xCB 0xA4, R244. -/
  | res4H
  /-- `RES 4,L`, 0xCB 0xA5, R244. -/
  | res4L
  /-- `RES 4,(HL)`, 0xCB 0xA6, R244. -/
  | res4AtHL
  /-- `RES 4,A`, 0xCB 0xA7, R244. -/
  | res4A
  /-- `RES 5,B`, 0xCB 0xA8, R244. -/
  | res5B
  /-- `RES 5,C`, 0xCB 0xA9, R244. -/
  | res5C
  /-- `RES 5,D`, 0xCB 0xAA, R244. -/
  | res5D
  /-- `RES 5,E`, 0xCB 0xAB, R244. -/
  | res5E
  /-- `RES 5,H`, 0xCB 0xAC, R244. -/
  | res5H
  /-- `RES 5,L`, 0xCB 0xAD, R244. -/
  | res5L
  /-- `RES 5,(HL)`, 0xCB 0xAE, R244. -/
  | res5AtHL
  /-- `RES 5,A`, 0xCB 0xAF, R244. -/
  | res5A
  /-- `RES 6,B`, 0xCB 0xB0, R244. -/
  | res6B
  /-- `RES 6,C`, 0xCB 0xB1, R244. -/
  | res6C
  /-- `RES 6,D`, 0xCB 0xB2, R244. -/
  | res6D
  /-- `RES 6,E`, 0xCB 0xB3, R244. -/
  | res6E
  /-- `RES 6,H`, 0xCB 0xB4, R244. -/
  | res6H
  /-- `RES 6,L`, 0xCB 0xB5, R244. -/
  | res6L
  /-- `RES 6,(HL)`, 0xCB 0xB6, R244. -/
  | res6AtHL
  /-- `RES 6,A`, 0xCB 0xB7, R244. -/
  | res6A
  /-- `RES 7,B`, 0xCB 0xB8, R244. -/
  | res7B
  /-- `RES 7,C`, 0xCB 0xB9, R244. -/
  | res7C
  /-- `RES 7,D`, 0xCB 0xBA, R244. -/
  | res7D
  /-- `RES 7,E`, 0xCB 0xBB, R244. -/
  | res7E
  /-- `RES 7,H`, 0xCB 0xBC, R244. -/
  | res7H
  /-- `RES 7,L`, 0xCB 0xBD, R244. -/
  | res7L
  /-- `RES 7,(HL)`, 0xCB 0xBE, R244. -/
  | res7AtHL
  /-- `RES 7,A`, 0xCB 0xBF, R244. -/
  | res7A
  /-- `SET 0,B`, 0xCB 0xC0, R245. -/
  | set0B
  /-- `SET 0,C`, 0xCB 0xC1, R245. -/
  | set0C
  /-- `SET 0,D`, 0xCB 0xC2, R245. -/
  | set0D
  /-- `SET 0,E`, 0xCB 0xC3, R245. -/
  | set0E
  /-- `SET 0,H`, 0xCB 0xC4, R245. -/
  | set0H
  /-- `SET 0,L`, 0xCB 0xC5, R245. -/
  | set0L
  /-- `SET 0,(HL)`, 0xCB 0xC6, R245. -/
  | set0AtHL
  /-- `SET 0,A`, 0xCB 0xC7, R245. -/
  | set0A
  /-- `SET 1,B`, 0xCB 0xC8, R245. -/
  | set1B
  /-- `SET 1,C`, 0xCB 0xC9, R245. -/
  | set1C
  /-- `SET 1,D`, 0xCB 0xCA, R245. -/
  | set1D
  /-- `SET 1,E`, 0xCB 0xCB, R245. -/
  | set1E
  /-- `SET 1,H`, 0xCB 0xCC, R245. -/
  | set1H
  /-- `SET 1,L`, 0xCB 0xCD, R245. -/
  | set1L
  /-- `SET 1,(HL)`, 0xCB 0xCE, R245. -/
  | set1AtHL
  /-- `SET 1,A`, 0xCB 0xCF, R245. -/
  | set1A
  /-- `SET 2,B`, 0xCB 0xD0, R245. -/
  | set2B
  /-- `SET 2,C`, 0xCB 0xD1, R245. -/
  | set2C
  /-- `SET 2,D`, 0xCB 0xD2, R245. -/
  | set2D
  /-- `SET 2,E`, 0xCB 0xD3, R245. -/
  | set2E
  /-- `SET 2,H`, 0xCB 0xD4, R245. -/
  | set2H
  /-- `SET 2,L`, 0xCB 0xD5, R245. -/
  | set2L
  /-- `SET 2,(HL)`, 0xCB 0xD6, R245. -/
  | set2AtHL
  /-- `SET 2,A`, 0xCB 0xD7, R245. -/
  | set2A
  /-- `SET 3,B`, 0xCB 0xD8, R245. -/
  | set3B
  /-- `SET 3,C`, 0xCB 0xD9, R245. -/
  | set3C
  /-- `SET 3,D`, 0xCB 0xDA, R245. -/
  | set3D
  /-- `SET 3,E`, 0xCB 0xDB, R245. -/
  | set3E
  /-- `SET 3,H`, 0xCB 0xDC, R245. -/
  | set3H
  /-- `SET 3,L`, 0xCB 0xDD, R245. -/
  | set3L
  /-- `SET 3,(HL)`, 0xCB 0xDE, R245. -/
  | set3AtHL
  /-- `SET 3,A`, 0xCB 0xDF, R245. -/
  | set3A
  /-- `SET 4,B`, 0xCB 0xE0, R245. -/
  | set4B
  /-- `SET 4,C`, 0xCB 0xE1, R245. -/
  | set4C
  /-- `SET 4,D`, 0xCB 0xE2, R245. -/
  | set4D
  /-- `SET 4,E`, 0xCB 0xE3, R245. -/
  | set4E
  /-- `SET 4,H`, 0xCB 0xE4, R245. -/
  | set4H
  /-- `SET 4,L`, 0xCB 0xE5, R245. -/
  | set4L
  /-- `SET 4,(HL)`, 0xCB 0xE6, R245. -/
  | set4AtHL
  /-- `SET 4,A`, 0xCB 0xE7, R245. -/
  | set4A
  /-- `SET 5,B`, 0xCB 0xE8, R245. -/
  | set5B
  /-- `SET 5,C`, 0xCB 0xE9, R245. -/
  | set5C
  /-- `SET 5,D`, 0xCB 0xEA, R245. -/
  | set5D
  /-- `SET 5,E`, 0xCB 0xEB, R245. -/
  | set5E
  /-- `SET 5,H`, 0xCB 0xEC, R245. -/
  | set5H
  /-- `SET 5,L`, 0xCB 0xED, R245. -/
  | set5L
  /-- `SET 5,(HL)`, 0xCB 0xEE, R245. -/
  | set5AtHL
  /-- `SET 5,A`, 0xCB 0xEF, R245. -/
  | set5A
  /-- `SET 6,B`, 0xCB 0xF0, R245. -/
  | set6B
  /-- `SET 6,C`, 0xCB 0xF1, R245. -/
  | set6C
  /-- `SET 6,D`, 0xCB 0xF2, R245. -/
  | set6D
  /-- `SET 6,E`, 0xCB 0xF3, R245. -/
  | set6E
  /-- `SET 6,H`, 0xCB 0xF4, R245. -/
  | set6H
  /-- `SET 6,L`, 0xCB 0xF5, R245. -/
  | set6L
  /-- `SET 6,(HL)`, 0xCB 0xF6, R245. -/
  | set6AtHL
  /-- `SET 6,A`, 0xCB 0xF7, R245. -/
  | set6A
  /-- `SET 7,B`, 0xCB 0xF8, R245. -/
  | set7B
  /-- `SET 7,C`, 0xCB 0xF9, R245. -/
  | set7C
  /-- `SET 7,D`, 0xCB 0xFA, R245. -/
  | set7D
  /-- `SET 7,E`, 0xCB 0xFB, R245. -/
  | set7E
  /-- `SET 7,H`, 0xCB 0xFC, R245. -/
  | set7H
  /-- `SET 7,L`, 0xCB 0xFD, R245. -/
  | set7L
  /-- `SET 7,(HL)`, 0xCB 0xFE, R245. -/
  | set7AtHL
  /-- `SET 7,A`, 0xCB 0xFF, R245. -/
  | set7A
  /-- `(undefined)`, 0xD3, R286. -/
  | undefinedD3
  /-- `(undefined)`, 0xDB, R286. -/
  | undefinedDB
  /-- `(undefined)`, 0xDD, R286. -/
  | undefinedDD
  /-- `(undefined)`, 0xE3, R286. -/
  | undefinedE3
  /-- `(undefined)`, 0xE4, R286. -/
  | undefinedE4
  /-- `(undefined)`, 0xEB, R286. -/
  | undefinedEB
  /-- `(undefined)`, 0xEC, R286. -/
  | undefinedEC
  /-- `(undefined)`, 0xED, R286. -/
  | undefinedED
  /-- `(undefined)`, 0xF4, R286. -/
  | undefinedF4
  /-- `(undefined)`, 0xFC, R286. -/
  | undefinedFC
  /-- `(undefined)`, 0xFD, R286. -/
  | undefinedFD
deriving DecidableEq, Repr

end Sys2Proof
end

