-- ==== Sys2Proof/WellFormed.lean ====
section
/-!
DEFINITION. Which terms of `Instr` are instructions of the machine. Every
operand is a byte or a 16-bit word and every value of it is legal (R123), so
the one check is R281: the escape byte 0xCB is not an instruction of its own.
-/

namespace Sys2Proof

/-- `prefixCB op2` is the row of the escape byte, which R281 calls no
instruction of its own: the two bytes are the extended-table entry `op2`, whose
own constructor the decoder gives. Every other term is an instruction. -/
def Instr.isEscape : Instr → Bool
  | .prefixCB _ => true
  | _ => false

/-- Well-formed instructions: all but the escape row (R123, R281). -/
abbrev Instr.WellFormed (i : Instr) : Prop := i.isEscape = false

end Sys2Proof
end

