-- ==== Sys2Proof/Machine/State.lean ====
section
/-!
DEFINITION. The state of the machine as plain data: the CPU record of R20 and
the bus with everything behind it (R33 to R39, R60), the two kinds of stop, and
the state after power-on (R350).
-/

namespace Sys2Proof.Machine

/-! ### The CPU (R20) -/

/-- The four flags (R25). The byte `F` is not stored: R26 packs it. -/
structure Flags where
  z : Bool
  n : Bool
  h : Bool
  c : Bool
deriving DecidableEq, Repr

/-- `CpuState` (R20). -/
structure Cpu where
  /-- Accumulator (R21). -/
  a : Byte
  b : Byte
  c : Byte
  d : Byte
  e : Byte
  h : Byte
  l : Byte
  flags : Flags
  /-- Stack Pointer (R23). -/
  sp : Word
  /-- Program Counter (R24). -/
  pc : Word
  /-- Interrupt master-enable (R28). -/
  ime : Bool
  /-- Pending-enable flag of `EI` (R29). -/
  imePending : Bool
  /-- Set by `HALT` (R30). -/
  halted : Bool
  /-- Running sum of the cycles of every step (R31). -/
  cycleCount : Nat
  /-- Latched after an undefined opcode (R32). -/
  hardStopped : Bool
deriving DecidableEq, Repr

/-! ### Memories -/

/-- A memory: the bytes written so far, by strictly rising index. An index not
listed has been reached by no write (R37). -/
abbrev Memory := List Host.Cell

/-! ### Cartridge (R38, R85 to R90) -/

/-- Registers of the simple banked controller (R87). -/
structure SimpleBanked where
  ramEnable : Bool
  low5 : BitVec 5
  secondary : BitVec 2
  /-- `false` ROM mode, `true` RAM mode. -/
  mode : Bool
deriving DecidableEq, Repr

/-- The five clock registers (R88), a byte each (log 11). -/
structure ClockRegs where
  seconds : Byte
  minutes : Byte
  hours : Byte
  dayLow : Byte
  dayHigh : Byte
deriving DecidableEq, Repr

/-- Registers of the RTC-backed controller (R88). -/
structure RtcBanked where
  ramEnable : Bool
  romBank : BitVec 7
  select : ClockSelect
  /-- The last write to the latch window was 0x00 (log 10). -/
  latchArmed : Bool
  live : ClockRegs
  latched : ClockRegs
  /-- The model's own counter: latch sequences completed (log 6). -/
  latches : Nat
deriving DecidableEq, Repr

/-- Registers of the extended banked controller (R89). -/
structure ExtendedBanked where
  ramEnable : Bool
  romBank : BitVec 9
  ramBank : BitVec 4
deriving DecidableEq, Repr

/-- The bank-controller variant, "a tagged variant (sum type) carrying only the
fields each variant needs" (R90). -/
inductive Controller where
  | fixed
  | simple (m : SimpleBanked)
  | rtc (m : RtcBanked)
  | extended (m : ExtendedBanked)
deriving DecidableEq, Repr

/-- The cartridge (R38). `romSize` and `ramSize` are in bytes; `ramSize = 0` is
a cartridge without RAM. -/
structure Cartridge where
  controller : Controller
  romSize : Nat
  ramSize : Nat
  rom : Memory
  ram : Memory
deriving DecidableEq, Repr

/-! ### Devices -/

/-- The timer (R35, R320 to R323). -/
structure Timer where
  div16 : Word
  tima : Byte
  tma : Byte
  /-- Stored bits of TAC: bit 2 enable, bits 1:0 clock-select. -/
  tac : BitVec 3
  reloadPending : Bool
deriving DecidableEq, Repr

/-- The PPU as far as it raises requests (R36, R312, R334): its registers, and
its own position in the frame, which no address shows (log 15, log 16). -/
structure Ppu where
  lcdc : Byte
  stat : Byte
  scy : Byte
  scx : Byte
  ly : Byte
  lyc : Byte
  bgp : Byte
  obp0 : Byte
  obp1 : Byte
  wy : Byte
  wx : Byte
  /-- Scanline 0..153. -/
  line : Nat
  /-- Cycle-unit inside the scanline, 0..455. -/
  dot : Nat
deriving DecidableEq, Repr

/-- The bus and everything behind it (R60, R70). `mem` holds video RAM, work
RAM, OAM, high RAM and the plain I/O bytes by bus address (R72, R74, R76, R79,
R81). -/
structure Bus where
  mem : Memory
  cart : Cartridge
  /-- Stored bits of the interrupt enable register (R33). -/
  ie : BitVec 5
  /-- Stored bits of the interrupt request register (R34). -/
  iff : BitVec 5
  timer : Timer
  ppu : Ppu
  p1 : Byte
  sb : Byte
  sc : Byte
  /-- Last byte written to the DMA register (R80). -/
  dma : Byte
deriving DecidableEq, Repr

/-- `CpuState x Bus` (R8). -/
structure State where
  cpu : Cpu
  bus : Bus
deriving DecidableEq, Repr

/-! ### The two kinds of stop (R8) -/

/-- Faults: the machine stops. -/
inductive Fault where
  /-- `UndefinedOpcode(op)` (R300): raised by the eleven undefined opcodes
  (R286). `addr` is the address the byte was fetched from; `final` is the state
  the hard stop leaves: `hard_stopped` set, `PC` one past the byte. The hardware
  stops too: safe (log 13). -/
  | undefinedOpcode (op : Byte) (addr : Word) (final : State)
  /-- A step of a hard-stopped CPU: "there is no step" (R303 phase 0). Raised by
  the step algorithm; safe (log 13). -/
  | hardStopped
deriving DecidableEq, Repr

/-- Refusals: the model gives no meaning. -/
inductive Refusal where
  /-- An instruction without a meaning yet, by its mnemonic in the opcode table;
  raised by `exec` alone; safe. -/
  | notModelled (mnemonic : String)
  /-- `STOP` (R283, D7): the spec itself orders the refusal; raised by the
  meaning of `STOP`, after its second byte `n` is fetched; safe (log 14). -/
  | stop (n : Byte)
deriving DecidableEq, Repr

/-! ### Power-on (R350, R351) -/

/-- The CPU after power-on (R350). -/
def Cpu.powerOn : Cpu where
  a := 0x01
  b := 0x00
  c := 0x13
  d := 0x00
  e := 0xD8
  h := 0x01
  l := 0x4D
  flags := { z := true, n := false, h := true, c := true }
  sp := 0xFFFE
  pc := 0x0100
  ime := false
  imePending := false
  halted := false
  cycleCount := 0
  hardStopped := false

/-- The timer after power-on (R350). -/
def Timer.powerOn : Timer where
  div16 := 0xABCC
  tima := 0x00
  tma := 0x00
  tac := 0
  reloadPending := false

/-- The PPU after power-on (R350); the position is the model's (log 15). -/
def Ppu.powerOn : Ppu where
  lcdc := 0x91
  stat := 0x85
  scy := 0x00
  scx := 0x00
  ly := 0x00
  lyc := 0x00
  bgp := 0xFC
  obp0 := 0xFF
  obp1 := 0xFF
  wy := 0x00
  wx := 0x00
  line := 0
  dot := 0

/-- `CART_VARIANT`, an argument of `power_on` (R90, D14). -/
inductive CartVariant where
  | fixed
  | simple
  | rtc
  | extended
deriving DecidableEq, Repr

/-- The bank-controller type a ROM image asks for: one of the variants, or one the
core does not support (R90, K22). How a header encodes it is not given (D14). -/
inductive ControllerType where
  | supported (v : CartVariant)
  | unsupported
deriving DecidableEq, Repr

/-- The failures of `power_on`, "reported to the caller as a distinct failure before
any stepping begins" (R90, R351, K22). -/
inductive LoadError where
  /-- "Malformed or truncated ROM image": one without a byte (log 21). -/
  | malformedImage
  /-- "Unsupported bank-controller type". -/
  | unsupportedController
deriving DecidableEq, Repr

/-- The clock registers after power-on: unspecified (R350), a free value (log 6). -/
def ClockRegs.powerOn : ClockRegs where
  seconds := Config.clockAtPowerOn 0
  minutes := Config.clockAtPowerOn 1
  hours := Config.clockAtPowerOn 2
  dayLow := Config.clockAtPowerOn 3
  dayHigh := Config.clockAtPowerOn 4

/-- The RTC-backed controller after power-on (R350). -/
def RtcBanked.powerOn : RtcBanked where
  ramEnable := false
  romBank := 1
  select := .ramBank 0
  latchArmed := false
  live := ClockRegs.powerOn
  latched := ClockRegs.powerOn
  latches := 0

/-- The controller after power-on: ROM bank 1, RAM bank 0, RAM disabled, mode 0,
secondary 0, select 0, latch sequence idle (R350). -/
def Controller.powerOn (v : CartVariant) : Controller :=
  match v with
  | .fixed => .fixed
  | .simple => .simple { ramEnable := false, low5 := 1, secondary := 0, mode := false }
  | .rtc => .rtc RtcBanked.powerOn
  | .extended => .extended { ramEnable := false, romBank := 1, ramBank := 0 }

/-- The bus after power-on with the given cartridge (R350). -/
def Bus.powerOn (cart : Cartridge) : Bus where
  mem := []
  cart := cart
  ie := 0
  iff := 0b00001
  timer := Timer.powerOn
  ppu := Ppu.powerOn
  p1 := 0xCF
  sb := 0x00
  sc := 0x7E
  dma := 0xFF

/-- The cartridge after power-on (R350): the ROM bytes given, no RAM byte
written. -/
def Cartridge.fresh (v : CartVariant) (romSize ramSize : Nat) (rom : Memory) : Cartridge where
  controller := Controller.powerOn v
  romSize := romSize
  ramSize := ramSize
  rom := rom
  ram := []

/-- The fresh session of `power_on` (R350, R351) for a cartridge variant, a ROM
image of `romSize` bytes of which `rom` are given, and the RAM size. -/
def State.fresh (v : CartVariant) (romSize ramSize : Nat) (rom : Memory) : State where
  cpu := Cpu.powerOn
  bus := Bus.powerOn (Cartridge.fresh v romSize ramSize rom)

/-- The machine right after reset (R350), with the cartridge of log 4: the Fixed
variant, 32 KiB of ROM no byte of which is listed (log 3), no RAM. -/
def State.reset : State := State.fresh .fixed 0x8000 0 []

end Sys2Proof.Machine
end

