-- ==== Sys2Proof/Machine/Memory.lean ====
section
/-!
DEFINITION. The named operations over a memory: reading one index, writing one
index, and the canonical form (indexes strictly rising) that every write keeps.
An index no write has reached has no value here; the reader of the bus gives the
free value of its region (log 2, log 3, log 5).
-/

namespace Sys2Proof.Machine

/-- The byte listed at `k`, if a write has reached it. -/
def Memory.lookup (m : Memory) (k : Nat) : Option Byte :=
  match m with
  | [] => none
  | (j, v) :: rest => if j = k then some v else Memory.lookup rest k

/-- Write `v` at `k`, keeping the indexes strictly rising. -/
def Memory.put (m : Memory) (k : Nat) (v : Byte) : Memory :=
  match m with
  | [] => [(k, v)]
  | (j, w) :: rest =>
    if k < j then (k, v) :: (j, w) :: rest
    else if j = k then (k, v) :: rest
    else (j, w) :: Memory.put rest k v

/-- Every listed index is above `lo`, and they strictly rise. -/
def Memory.risingAbove (m : Memory) (lo : Nat) : Bool :=
  match m with
  | [] => true
  | (j, _) :: rest => decide (lo < j) && Memory.risingAbove rest j

/-- The canonical form: indexes strictly rising, so no index is listed twice. -/
def Memory.wf (m : Memory) : Bool :=
  match m with
  | [] => true
  | (j, _) :: rest => Memory.risingAbove rest j

/-- Every listed index satisfies `p`. -/
def Memory.within (m : Memory) (p : Nat → Bool) : Bool := m.all fun cell => p cell.1

end Sys2Proof.Machine
end

