-- ==== Sys2Proof/Machine/Cartridge.lean ====
section
/-!
DEFINITION. The cartridge behind the ROM windows 0x0000..0x7FFF and the
external-RAM window 0xA000..0xBFFF (R71, R73, R85 to R89).
-/

namespace Sys2Proof.Machine

/-! ### Clock registers (R88) -/

/-- Clock register by number: seconds, minutes, hours, day-low, day-high. -/
def ClockRegs.get (c : ClockRegs) (r : Fin 5) : Byte :=
  match r with
  | 0 => c.seconds
  | 1 => c.minutes
  | 2 => c.hours
  | 3 => c.dayLow
  | 4 => c.dayHigh

/-- Write one clock register. -/
def ClockRegs.set (c : ClockRegs) (r : Fin 5) (v : Byte) : ClockRegs :=
  match r with
  | 0 => { c with seconds := v }
  | 1 => { c with minutes := v }
  | 2 => { c with hours := v }
  | 3 => { c with dayLow := v }
  | 4 => { c with dayHigh := v }

/-- What the live clock has become at latch number `n`: a free value (log 6). -/
def ClockRegs.now (c : ClockRegs) (n : Nat) : ClockRegs where
  seconds := Config.clockNow n 0 c.seconds
  minutes := Config.clockNow n 1 c.minutes
  hours := Config.clockNow n 2 c.hours
  dayLow := Config.clockNow n 3 c.dayLow
  dayHigh := Config.clockNow n 4 c.dayHigh

/-! ### Banks -/

/-- Bank seen in 0x0000..0x3FFF (R86 to R89). -/
def Controller.lowBank (c : Controller) : Nat :=
  match c with
  | .simple m => if m.mode then m.secondary.toNat * 32 else 0
  | _ => 0

/-- Bank seen in 0x4000..0x7FFF (R86 to R89); for the simple banked controller
the same formula in both modes, as R87 keeps it (log 20). -/
def Controller.highBank (c : Controller) : Nat :=
  match c with
  | .fixed => 1
  | .simple m => m.secondary.toNat * 32 + m.low5.toNat
  | .rtc m => m.romBank.toNat
  | .extended m => m.romBank.toNat

/-- Index into the ROM image of an address in the ROM windows (R85, R86). -/
def Cartridge.romIndex (c : Cartridge) (a : Nat) : Nat :=
  let bank := if a < Config.romBankSize then c.controller.lowBank else c.controller.highBank
  (bank * Config.romBankSize + a % Config.romBankSize) % c.romSize

/-- A ROM byte by image index: the listed one, else the free image (log 3). -/
def Cartridge.romByte (c : Cartridge) (k : Nat) : Byte :=
  (Memory.lookup c.rom k).getD (Config.romImage k)

/-- `Cartridge.read` in the ROM windows (R71). -/
def Cartridge.readRom (c : Cartridge) (a : Nat) : Byte := c.romByte (c.romIndex a)

/-- What the external-RAM window reaches. -/
inductive RamTarget where
  /-- RAM bank `b`. -/
  | bank (b : Nat)
  /-- Clock register `r`. -/
  | clock (r : Fin 5)
  /-- Nothing: reads 0xFF, writes are ignored. -/
  | closed
deriving DecidableEq, Repr

/-- What the controller lets the external-RAM window reach, on a cartridge with RAM:
nothing while the RAM-enable latch is clear (R85), else the bank of R87 to R89 or
the clock register of R88. The Fixed variant has no latch (R86, log 7). -/
def Controller.ramTarget (c : Controller) : RamTarget :=
  match c with
  | .fixed => .bank 0
  | .simple m => if m.ramEnable then .bank (if m.mode then m.secondary.toNat else 0) else .closed
  | .rtc m =>
    if m.ramEnable then
      match m.select with
      | .ramBank b => .bank b.val
      | .clock r => .clock r
      | .nothing => .closed
    else .closed
  | .extended m => if m.ramEnable then .bank m.ramBank.toNat else .closed

/-- What the external-RAM window reaches now: nothing on a cartridge without RAM
(R85, D21), clock registers included. -/
def Cartridge.ramTarget (c : Cartridge) : RamTarget :=
  if c.ramSize = 0 then .closed else c.controller.ramTarget

/-- Index into the RAM chip of offset `o` in bank `b` (R85). -/
def Cartridge.ramIndex (c : Cartridge) (b o : Nat) : Nat :=
  (b * Config.ramBankSize + o) % c.ramSize

/-- A RAM byte by chip index: the listed one, else the free value (log 5). -/
def Cartridge.ramByte (c : Cartridge) (k : Nat) : Byte :=
  (Memory.lookup c.ram k).getD (Config.unwrittenCartRam k)

/-- The latched clock register, "never the live value" (R88). -/
def Controller.latchedClock (c : Controller) (r : Fin 5) : Byte :=
  match c with
  | .rtc m => m.latched.get r
  | _ => Config.disabledRamRead

/-- Read offset `o` of the external-RAM window (R73, R85, R88). -/
def Cartridge.readRam (c : Cartridge) (o : Nat) : Byte :=
  match c.ramTarget with
  | .bank b => c.ramByte (c.ramIndex b o)
  | .clock r => c.controller.latchedClock r
  | .closed => Config.disabledRamRead

/-- A write to a clock register changes the live register (R88). -/
def Controller.writeClock (c : Controller) (r : Fin 5) (v : Byte) : Controller :=
  match c with
  | .rtc m => .rtc { m with live := m.live.set r v }
  | other => other

/-- Write offset `o` of the external-RAM window (R73, R85, R88). -/
def Cartridge.writeRam (c : Cartridge) (o : Nat) (v : Byte) : Cartridge :=
  match c.ramTarget with
  | .bank b => { c with ram := Memory.put c.ram (c.ramIndex b o) v }
  | .clock r => { c with controller := c.controller.writeClock r v }
  | .closed => c

/-! ### Control registers, written through the ROM windows (R71) -/

/-- The RAM-enable latch: set when the low nibble is the sentinel 0xA, else
cleared (R85). -/
def ramEnableOf (v : Byte) : Bool := v.toNat % 16 == 0xA

/-- R87. -/
def SimpleBanked.write (m : SimpleBanked) (a : Nat) (v : Byte) : SimpleBanked :=
  if a < 0x2000 then { m with ramEnable := ramEnableOf v }
  else if a < 0x4000 then
    let low := v.extractLsb' 0 5
    { m with low5 := if low = 0 then 1 else low }
  else if a < 0x6000 then { m with secondary := v.extractLsb' 0 2 }
  else { m with mode := v.getLsbD 0 }

/-- The selection of R88: 0x00..0x03 a RAM bank, 0x08..0x0C a clock register;
any other value leaves a free selection (log 9). -/
def clockSelectOf (before : ClockSelect) (v : Byte) : ClockSelect :=
  match v.toNat with
  | 0x00 => .ramBank 0
  | 0x01 => .ramBank 1
  | 0x02 => .ramBank 2
  | 0x03 => .ramBank 3
  | 0x08 => .clock 0
  | 0x09 => .clock 1
  | 0x0A => .clock 2
  | 0x0B => .clock 3
  | 0x0C => .clock 4
  | _ => Config.unlistedSelect before v

/-- The latch sequence of R88: a write of 0x01 that directly follows a write of
0x00 copies the live clock registers into the latched copy (log 6, log 10). -/
def RtcBanked.writeLatch (m : RtcBanked) (v : Byte) : RtcBanked :=
  if m.latchArmed && v == 0x01 then
    { m with
      live := m.live.now m.latches
      latched := m.live.now m.latches
      latches := m.latches + 1
      latchArmed := false }
  else { m with latchArmed := v == 0x00 }

/-- R88. -/
def RtcBanked.write (m : RtcBanked) (a : Nat) (v : Byte) : RtcBanked :=
  if a < 0x2000 then { m with ramEnable := ramEnableOf v }
  else if a < 0x4000 then
    let bank := v.extractLsb' 0 7
    { m with romBank := if bank = 0 then 1 else bank }
  else if a < 0x6000 then { m with select := clockSelectOf m.select v }
  else m.writeLatch v

/-- R89. Writes to 0x6000..0x7FFF reach no register. -/
def ExtendedBanked.write (m : ExtendedBanked) (a : Nat) (v : Byte) : ExtendedBanked :=
  if a < 0x2000 then { m with ramEnable := ramEnableOf v }
  else if a < 0x3000 then { m with romBank := m.romBank.extractLsb' 8 1 ++ v }
  else if a < 0x4000 then { m with romBank := v.extractLsb' 0 1 ++ m.romBank.extractLsb' 0 8 }
  else if a < 0x6000 then { m with ramBank := v.extractLsb' 0 4 }
  else m

/-- A write to the ROM windows goes to the controller; the Fixed variant ignores
it (R71, R86). -/
def Controller.write (c : Controller) (a : Nat) (v : Byte) : Controller :=
  match c with
  | .fixed => .fixed
  | .simple m => .simple (m.write a v)
  | .rtc m => .rtc (m.write a v)
  | .extended m => .extended (m.write a v)

/-- `Cartridge.write` in the ROM windows: never changes ROM (R71). -/
def Cartridge.writeRom (c : Cartridge) (a : Nat) (v : Byte) : Cartridge :=
  { c with controller := c.controller.write a v }

end Sys2Proof.Machine
end

