-- ==== Sys2Proof/Machine/Timer.lean ====
section
/-!
DEFINITION. Interrupt sources and their request bits (R305, R310), the timer
registers as the bus sees them (R35) and the timer's tick (R320 to R324).
-/

namespace Sys2Proof.Machine

/-- The five interrupt sources, highest priority first (R305, R306). -/
inductive Source where
  | vblank
  | stat
  | timer
  | serial
  | joypad
deriving DecidableEq, Repr

/-- The bit number of a source in IE and IF (R33, R34, R305). -/
def Source.bit (s : Source) : Nat :=
  match s with
  | .vblank => 0
  | .stat => 1
  | .timer => 2
  | .serial => 3
  | .joypad => 4

/-- The mask with only the bit of `s` set. -/
def Source.mask (s : Source) : BitVec 5 := BitVec.ofNat 5 (2 ^ s.bit)

/-- The fixed vector address `0x0040 + 8*i` (R305). -/
def Source.vector (s : Source) : Word := BitVec.ofNat 16 (0x40 + 8 * s.bit)

/-- The mask of a request that is raised only if `raised`. -/
def Source.maskIf (s : Source) (raised : Bool) : BitVec 5 := if raised then s.mask else 0

/-- The divider bit that clocks TIMA (R321): select 00 bit 9, 01 bit 3, 10 bit
5, 11 bit 7. -/
def Timer.selectedBit (t : Timer) : Nat :=
  match t.tac.toNat % 4 with
  | 0 => 9
  | 1 => 3
  | 2 => 5
  | _ => 7

/-- The enable bit TAC[2] (R35). -/
def Timer.enabled (t : Timer) : Bool := t.tac.getLsbD 2

/-- The reload of R322, one cycle-unit after the overflow. -/
def Timer.reload (t : Timer) : Timer :=
  if t.reloadPending then { t with tima := t.tma, reloadPending := false } else t

/-- TIMA counts once, or overflows to 0x00 and leaves the reload pending (R322). -/
def Timer.count (t : Timer) : Timer :=
  if t.tima = 0xFF then { t with tima := 0x00, reloadPending := true }
  else { t with tima := t.tima + 1 }

/-- One cycle-unit (R323). -/
def Timer.tick (t : Timer) : Timer :=
  let t1 := t.reload
  let div := t1.div16 + 1
  let t2 := { t1 with div16 := div }
  if t1.enabled && t1.div16.getLsbD t1.selectedBit && !div.getLsbD t1.selectedBit then t2.count else t2

/-- The requests one cycle-unit raises: the timer's, at the reload (R322, R323). -/
def Timer.tickRequests (t : Timer) : BitVec 5 := Source.timer.maskIf t.reloadPending

/-- The timer registers of R35. -/
inductive TimerReg where
  | div
  | tima
  | tma
  | tac
deriving DecidableEq, Repr

/-- Read a timer register (R35): DIV is the high byte of the divider, TAC reads
1 in bits 7:3. -/
def Timer.read (t : Timer) (r : TimerReg) : Byte :=
  match r with
  | .div => t.div16.extractLsb' 8 8
  | .tima => t.tima
  | .tma => t.tma
  | .tac => 0xF8 ||| t.tac.zeroExtend 8

/-- Write a timer register (R35, R324): any write to DIV clears the divider. -/
def Timer.write (t : Timer) (r : TimerReg) (v : Byte) : Timer :=
  match r with
  | .div => { t with div16 := 0 }
  | .tima => { t with tima := v }
  | .tma => { t with tma := v }
  | .tac => { t with tac := v.extractLsb' 0 3 }

end Sys2Proof.Machine
end

