-- ==== Sys2Proof/Machine/Ppu.lean ====
section
/-!
DEFINITION. The PPU as far as it raises requests (R312, R334): its registers as
the bus sees them (R36), and one cycle-unit of its four modes.
-/

namespace Sys2Proof.Machine

/-- The four modes with the numbers of R334. -/
inductive PpuMode where
  | hblank
  | vblank
  | oamSearch
  | transfer
deriving DecidableEq, Repr

/-- Mode number (R334). -/
def PpuMode.number (m : PpuMode) : BitVec 2 :=
  match m with
  | .hblank => 0
  | .vblank => 1
  | .oamSearch => 2
  | .transfer => 3

/-- The mode that holds at a position of the frame (R334). -/
def Ppu.modeAt (line dot : Nat) : PpuMode :=
  if Config.visibleLines ≤ line then .vblank
  else if dot < Config.oamSearchDots then .oamSearch
  else if dot < Config.oamSearchDots + Config.pixelTransferDots then .transfer
  else .hblank

/-- The mode a cycle-unit enters at the position it reaches, if it is the first
of that mode (R334). -/
def Ppu.entered (line dot : Nat) : Option PpuMode :=
  if line < Config.visibleLines then
    if dot = 0 then some .oamSearch
    else if dot = Config.oamSearchDots then some .transfer
    else if dot = Config.oamSearchDots + Config.pixelTransferDots then some .hblank
    else none
  else if line = Config.visibleLines ∧ dot = 0 then some .vblank
  else none

/-- The position one cycle-unit later: 456 a scanline, 154 scanlines (R334). -/
def Ppu.nextPosition (line dot : Nat) : Nat × Nat :=
  if dot + 1 < Config.dotsPerLine then (line, dot + 1)
  else if line + 1 < Config.linesPerFrame then (line + 1, 0)
  else (0, 0)

/-- The STAT bit that enables the LCD-status request at the entry of a mode:
bits 3, 4, 5 for modes 0, 1, 2; entering Pixel-transfer has none (R312). -/
def Ppu.modeEntryEnabled (p : Ppu) (m : PpuMode) : Bool :=
  match m with
  | .hblank => p.stat.getLsbD 3
  | .vblank => p.stat.getLsbD 4
  | .oamSearch => p.stat.getLsbD 5
  | .transfer => false

/-- The line compare of R312 at the start of scanline `line`: enabled by STAT
bit 6; in the vertical-blank scanlines a free value decides (log 17). -/
def Ppu.lineCompare (p : Ppu) (line dot : Nat) : Bool :=
  decide (dot = 0) && p.stat.getLsbD 6 && decide (p.lyc.toNat = line) &&
    (decide (line < Config.visibleLines) || Config.lineCompareInVblank)

/-- STAT with the mode in bits 1:0 (log 16). -/
def Ppu.statWithMode (stat : Byte) (m : PpuMode) : Byte := (stat &&& 0xFC) ||| m.number.zeroExtend 8

/-- One cycle-unit of the PPU (R334): the position moves on; a scanline that
starts is written to LY, a mode that is entered to STAT (log 16). -/
def Ppu.tick (p : Ppu) : Ppu :=
  let pos := Ppu.nextPosition p.line p.dot
  { p with
    line := pos.1
    dot := pos.2
    ly := if pos.2 = 0 then BitVec.ofNat 8 pos.1 else p.ly
    stat := match Ppu.entered pos.1 pos.2 with
      | some m => Ppu.statWithMode p.stat m
      | none => p.stat }

/-- The requests one cycle-unit raises (R312): vertical-blank on entering it,
LCD-status on an enabled mode entry or line compare. -/
def Ppu.tickRequests (p : Ppu) : BitVec 5 :=
  let pos := Ppu.nextPosition p.line p.dot
  let entry := Ppu.entered pos.1 pos.2
  let byMode := match entry with
    | some m => p.modeEntryEnabled m
    | none => false
  Source.vblank.maskIf (entry == some .vblank) |||
    Source.stat.maskIf (byMode || p.lineCompare pos.1 pos.2)

/-- The PPU registers of R36. -/
inductive PpuReg where
  | lcdc
  | stat
  | scy
  | scx
  | ly
  | lyc
  | bgp
  | obp0
  | obp1
  | wy
  | wx
deriving DecidableEq, Repr

/-- Read a PPU register (R36). -/
def Ppu.read (p : Ppu) (r : PpuReg) : Byte :=
  match r with
  | .lcdc => p.lcdc
  | .stat => p.stat
  | .scy => p.scy
  | .scx => p.scx
  | .ly => p.ly
  | .lyc => p.lyc
  | .bgp => p.bgp
  | .obp0 => p.obp0
  | .obp1 => p.obp1
  | .wy => p.wy
  | .wx => p.wx

/-- Write a PPU register: storage (R36, log 16). -/
def Ppu.write (p : Ppu) (r : PpuReg) (v : Byte) : Ppu :=
  match r with
  | .lcdc => { p with lcdc := v }
  | .stat => { p with stat := v }
  | .scy => { p with scy := v }
  | .scx => { p with scx := v }
  | .ly => { p with ly := v }
  | .lyc => { p with lyc := v }
  | .bgp => { p with bgp := v }
  | .obp0 => { p with obp0 := v }
  | .obp1 => { p with obp1 := v }
  | .wy => { p with wy := v }
  | .wx => { p with wx := v }

end Sys2Proof.Machine
end

