-- ==== Sys2Proof/Machine/Bus.lean ====
section
/-!
DEFINITION. The bus (R60): the exhaustive dispatch of the 65536 addresses (R70
to R82), reading and writing a byte, the OAM DMA (R80), and the peripherals
advancing between CPU steps (R97).
-/

namespace Sys2Proof.Machine

/-- What an address reaches. -/
inductive Target where
  /-- ROM windows, by address (R71). -/
  | rom (a : Nat)
  /-- External-RAM window, by offset (R73). -/
  | cartRam (o : Nat)
  /-- Plain storage: video RAM, work RAM, OAM, high RAM, plain I/O bytes, by
  canonical bus address (R72, R74 to R76, R79, R81). -/
  | store (k : Nat)
  /-- The unusable window (R77). -/
  | unusable
  /-- Joypad register P1 (R36). -/
  | p1
  /-- Serial data SB (R36). -/
  | sb
  /-- Serial control SC (R36). -/
  | sc
  /-- A timer register (R35). -/
  | timer (r : TimerReg)
  /-- The interrupt request register IF (R34). -/
  | iff
  /-- A PPU register (R36). -/
  | ppu (r : PpuReg)
  /-- The DMA trigger (R80). -/
  | dma
  /-- The interrupt enable register IE (R82). -/
  | ie
deriving DecidableEq, Repr

/-- The I/O window 0xFF00..0xFF7F by its low byte (R78, R79, R35, R36). -/
def routeIo (low : Nat) : Target :=
  match low with
  | 0x00 => .p1
  | 0x01 => .sb
  | 0x02 => .sc
  | 0x04 => .timer .div
  | 0x05 => .timer .tima
  | 0x06 => .timer .tma
  | 0x07 => .timer .tac
  | 0x0F => .iff
  | 0x40 => .ppu .lcdc
  | 0x41 => .ppu .stat
  | 0x42 => .ppu .scy
  | 0x43 => .ppu .scx
  | 0x44 => .ppu .ly
  | 0x45 => .ppu .lyc
  | 0x46 => .dma
  | 0x47 => .ppu .bgp
  | 0x48 => .ppu .obp0
  | 0x49 => .ppu .obp1
  | 0x4A => .ppu .wy
  | 0x4B => .ppu .wx
  | low => .store (0xFF00 + low)

/-- The address map of R70. -/
def route (a : Word) : Target :=
  let n := a.toNat
  if n < 0x8000 then .rom n
  else if n < 0xA000 then .store n
  else if n < 0xC000 then .cartRam (n - 0xA000)
  else if n < 0xE000 then .store n
  else if n < 0xFE00 then .store (n - 0x2000)
  else if n < 0xFEA0 then .store n
  else if n < 0xFF00 then .unusable
  else if n < 0xFF80 then routeIo (n - 0xFF00)
  else if n < 0xFFFF then .store n
  else .ie

/-- The indexes of `Bus.mem`: the canonical addresses of plain storage. -/
def isStoreKey (k : Nat) : Bool := decide (k < 0x10000) && route (BitVec.ofNat 16 k) == .store k

/-- A byte of plain storage: the last one written, else the free value (log 2). -/
def Bus.load (b : Bus) (k : Nat) : Byte := (Memory.lookup b.mem k).getD (Config.unwrittenByte k)

/-- Store a byte in plain storage. -/
def Bus.store (b : Bus) (k : Nat) (v : Byte) : Bus := { b with mem := Memory.put b.mem k v }

/-- `read(address)` (R60): total, without side effect (R64). -/
def Bus.read (b : Bus) (a : Word) : Byte :=
  match route a with
  | .rom n => b.cart.readRom n
  | .cartRam o => b.cart.readRam o
  | .store k => b.load k
  | .unusable => Config.unusableRead
  | .p1 => b.p1
  | .sb => b.sb
  | .sc => b.sc
  | .timer r => b.timer.read r
  | .iff => 0xE0 ||| b.iff.zeroExtend 8
  | .ppu r => b.ppu.read r
  | .dma => b.dma
  | .ie => 0xE0 ||| b.ie.zeroExtend 8

/-- Address `v*0x100 + i` modulo 2^16, source of the OAM DMA (R80). -/
def dmaSource (v : Byte) (i : Nat) : Word := BitVec.ofNat 16 (v.toNat * 0x100 + i)

/-- The first bytes of the copy of R80, in increasing order from `i`. -/
def Bus.dmaCopy (b : Bus) (v : Byte) (i count : Nat) : Bus :=
  match count with
  | 0 => b
  | count + 1 => Bus.dmaCopy (b.store (0xFE00 + i) (b.read (dmaSource v i))) v (i + 1) count

/-- Keep the byte written to the DMA trigger (R80). -/
def Bus.setDma (b : Bus) (v : Byte) : Bus := { b with dma := v }

/-- A write to the DMA trigger (R80): 160 bytes into OAM, then the byte is kept. -/
def Bus.writeDma (b : Bus) (v : Byte) : Bus := (b.dmaCopy v 0 160).setDma v

/-- `write(address, byte)` (R60): total. -/
def Bus.write (b : Bus) (a : Word) (v : Byte) : Bus :=
  match route a with
  | .rom n => { b with cart := b.cart.writeRom n v }
  | .cartRam o => { b with cart := b.cart.writeRam o v }
  | .store k => b.store k v
  | .unusable => b
  | .p1 => { b with p1 := v }
  | .sb => { b with sb := v }
  | .sc => { b with sc := v }
  | .timer r => { b with timer := b.timer.write r v }
  | .iff => { b with iff := v.extractLsb' 0 5 }
  | .ppu r => { b with ppu := b.ppu.write r v }
  | .dma => b.writeDma v
  | .ie => { b with ie := v.extractLsb' 0 5 }

/-! ### Requests and time -/

/-- Set request bits in IF (R310: a request stays until cleared). -/
def Bus.request (b : Bus) (mask : BitVec 5) : Bus := { b with iff := b.iff ||| mask }

/-- One cycle-unit of the timer, and its request (R323). -/
def Bus.timerTick (b : Bus) : Bus :=
  Bus.request { b with timer := b.timer.tick } b.timer.tickRequests

/-- `Timer.advance(c)`: `c` ticks (R320). -/
def Bus.timerAdvance (b : Bus) (c : Nat) : Bus :=
  match c with
  | 0 => b
  | c + 1 => Bus.timerAdvance b.timerTick c

/-- One cycle-unit of the PPU, and its requests (R312, R334). -/
def Bus.ppuTick (b : Bus) : Bus :=
  Bus.request { b with ppu := b.ppu.tick } b.ppu.tickRequests

/-- `PPU.advance(c)`: `c` cycle-units (R334). -/
def Bus.ppuAdvance (b : Bus) (c : Nat) : Bus :=
  match c with
  | 0 => b
  | c + 1 => Bus.ppuAdvance b.ppuTick c

/-- The peripherals after a CPU step of `c` cycle-units: the timer, then the PPU
(R97, D28). -/
def Bus.advance (b : Bus) (c : Nat) : Bus := (b.timerAdvance c).ppuAdvance c

end Sys2Proof.Machine
end

