-- ==== Sys2Proof/Machine/Ops.lean ====
section
/-!
DEFINITION. The named operations over the CPU and its bus: bytes and words,
registers and pairs (R10, R21), memory and stack (R11), cycles (R31), taking an
interrupt and returning from it (R302 to R306, R309), and the one fault (R300).
-/

namespace Sys2Proof.Machine

/-! ### Bytes and words (R9) -/

/-- `v[15:8]`. -/
def hiByte (v : Word) : Byte := v.extractLsb' 8 8

/-- `v[7:0]`. -/
def loByte (v : Word) : Byte := v.extractLsb' 0 8

/-- `hi:lo`. -/
def pairOf (hi lo : Byte) : Word := hi ++ lo

/-- `sext_16` of R9. -/
def sext16 (v : Byte) : Word := v.signExtend 16

/-- `zext_16` of R9. -/
def zext16 (v : Byte) : Word := v.zeroExtend 16

/-! ### Registers and pairs (R10, R21) -/

/-- Read an 8-bit register. -/
def Cpu.get (s : Cpu) (r : Reg) : Byte :=
  match r with
  | .b => s.b
  | .c => s.c
  | .d => s.d
  | .e => s.e
  | .h => s.h
  | .l => s.l
  | .a => s.a

/-- Write an 8-bit register. -/
def Cpu.set (s : Cpu) (r : Reg) (v : Byte) : Cpu :=
  match r with
  | .b => { s with b := v }
  | .c => { s with c := v }
  | .d => { s with d := v }
  | .e => { s with e := v }
  | .h => { s with h := v }
  | .l => { s with l := v }
  | .a => { s with a := v }

def Cpu.bc (s : Cpu) : Word := pairOf s.b s.c
def Cpu.de (s : Cpu) : Word := pairOf s.d s.e
def Cpu.hl (s : Cpu) : Word := pairOf s.h s.l

/-- Writing a pair writes both halves (R10). -/
def Cpu.setBC (s : Cpu) (v : Word) : Cpu := { s with b := hiByte v, c := loByte v }
/-- Writing a pair writes both halves (R10). -/
def Cpu.setDE (s : Cpu) (v : Word) : Cpu := { s with d := hiByte v, e := loByte v }
/-- Writing a pair writes both halves (R10). -/
def Cpu.setHL (s : Cpu) (v : Word) : Cpu := { s with h := hiByte v, l := loByte v }

/-- `PackF` (R26): Z, N, H, C at bits 7, 6, 5, 4, the rest 0. -/
def packF (f : Flags) : Byte :=
  BitVec.ofNat 8 (f.z.toNat * 0x80 + f.n.toNat * 0x40 + f.h.toNat * 0x20 + f.c.toNat * 0x10)

/-- `UnpackF` (R26): bits 3:0 are discarded. -/
def unpackF (v : Byte) : Flags where
  z := v.getLsbD 7
  n := v.getLsbD 6
  h := v.getLsbD 5
  c := v.getLsbD 4

/-- `AF = A:F` (R10). -/
def Cpu.af (s : Cpu) : Word := pairOf s.a (packF s.flags)

/-- Writing `AF` writes `A` and the four flags (R10, R176). -/
def Cpu.setAF (s : Cpu) (v : Word) : Cpu := { s with a := hiByte v, flags := unpackF (loByte v) }

/-! ### Updates of one register of the state -/

/-- Write an 8-bit register. -/
def State.setReg (s : State) (r : Reg) (v : Byte) : State := { s with cpu := s.cpu.set r v }

/-- Write the four flags. -/
def State.setFlags (s : State) (f : Flags) : State := { s with cpu := { s.cpu with flags := f } }

/-- Write `HL`. -/
def State.setHL (s : State) (v : Word) : State := { s with cpu := s.cpu.setHL v }

/-- Write `SP`. -/
def State.setSP (s : State) (v : Word) : State := { s with cpu := { s.cpu with sp := v } }

/-- `PC <- v`. -/
def State.setPC (s : State) (v : Word) : State := { s with cpu := { s.cpu with pc := v } }

/-- Write `IME`. -/
def State.setIME (s : State) (v : Bool) : State := { s with cpu := { s.cpu with ime := v } }

/-- Write `ime_pending`. -/
def State.setImePending (s : State) (v : Bool) : State := { s with cpu := { s.cpu with imePending := v } }

/-- Write `halted`. -/
def State.setHalted (s : State) (v : Bool) : State := { s with cpu := { s.cpu with halted := v } }

/-- `cycles <- n` of a step: the count it adds to `cycle_count` (R31, R303 phase 5). -/
def State.cycles (s : State) (n : Nat) : State :=
  { s with cpu := { s.cpu with cycleCount := s.cpu.cycleCount + n } }

/-! ### Memory and stack (R11) -/

/-- `MemRead(a, 1)`. -/
def State.memRead (s : State) (a : Word) : Byte := s.bus.read a

/-- `MemWrite(a, 1, v)`. -/
def State.memWrite (s : State) (a : Word) (v : Byte) : State := { s with bus := s.bus.write a v }

/-- One byte of `Push16`: decrement `SP`, then write. -/
def State.pushByte (s : State) (v : Byte) : State :=
  let s1 := s.setSP (s.cpu.sp - 1)
  s1.memWrite s1.cpu.sp v

/-- `Push16` (R11): high byte first, at `SP - 1`. -/
def State.push16 (s : State) (v : Word) : State := (s.pushByte (hiByte v)).pushByte (loByte v)

/-- What `Pop16` reads: low byte at `SP`, high byte at `SP + 1` (R11). -/
def State.popValue (s : State) : Word := pairOf (s.memRead (s.cpu.sp + 1)) (s.memRead s.cpu.sp)

/-- What `Pop16` leaves: `SP` two higher (R11). -/
def State.popped (s : State) : State := s.setSP (s.cpu.sp + 2)

/-! ### Interrupts (R302 to R306) -/

/-- The pending set: bits set in both IE and IF (R302, D24). -/
def Bus.pending (b : Bus) : BitVec 5 := b.ie &&& b.iff

/-- The highest-priority source of a pending set: its lowest-numbered set bit
(R306). -/
def highestSource (pend : BitVec 5) : Option Source :=
  if pend.getLsbD 0 then some .vblank
  else if pend.getLsbD 1 then some .stat
  else if pend.getLsbD 2 then some .timer
  else if pend.getLsbD 3 then some .serial
  else if pend.getLsbD 4 then some .joypad
  else none

/-- Clear one request bit (R302). -/
def Bus.acknowledge (b : Bus) (src : Source) : Bus := { b with iff := b.iff &&& ~~~src.mask }

/-- TAKING AN INTERRUPT (R304): `IME` and the request bit cleared, `halted`
cleared, the `PC` pushed, the `PC` at the vector. -/
def State.dispatch (s : State) (src : Source) : State :=
  let s1 := s.setIME false
  let s2 := ({ s1 with bus := s1.bus.acknowledge src }).setHalted false
  (s2.push16 s2.cpu.pc).setPC src.vector

/-- RETURNING FROM AN INTERRUPT (R269, R309): `PC <- Pop16(); IME <- 1`. -/
def State.returnFromInterrupt (s : State) : State := (s.popped.setPC s.popValue).setIME true

/-! ### Outcomes -/

/-- What a step or a meaning answers. -/
abbrev Result := Host.Outcome State Fault Refusal

/-- `raise UndefinedOpcode(op)` (R300), after the opcode byte is fetched: the
opcode, the address `PC - 1` it was fetched from, and the hard-stopped state. -/
def State.raiseUndefinedOpcode (s : State) (op : Byte) : Result :=
  .fault (.undefinedOpcode op (s.cpu.pc - 1) { s with cpu := { s.cpu with hardStopped := true } })

end Sys2Proof.Machine
end

