-- ==== Sys2Proof/Machine/Operands.lean ====
section
/-!
DEFINITION. The operand forms: the 8-bit operand `r8` (R113), the pairs `rp` and
`rp2` (R114), the conditions (R115) and the effective addresses of R159.
-/

namespace Sys2Proof.Machine

/-- `r8[i]` read (R113): a register, or the byte at `HL`. -/
def State.readR8 (s : State) (x : R8) : Byte :=
  match x with
  | .reg r => s.cpu.get r
  | .atHL => s.memRead s.cpu.hl

/-- `r8[i] <- v` (R113). -/
def State.writeR8 (s : State) (x : R8) (v : Byte) : State :=
  match x with
  | .reg r => s.setReg r v
  | .atHL => s.memWrite s.cpu.hl v

/-- A cost that depends on whether the operand is a register or the byte at `HL`
(R362). -/
def r8Cost (x : R8) (register memory : Nat) : Nat :=
  match x with
  | .reg _ => register
  | .atHL => memory

/-- `rp[p]` read (R114). -/
def Cpu.getRP (s : Cpu) (p : RP) : Word :=
  match p with
  | .bc => s.bc
  | .de => s.de
  | .hl => s.hl
  | .sp => s.sp

/-- `rp[p] <- v` (R114). -/
def Cpu.setRP (s : Cpu) (p : RP) (v : Word) : Cpu :=
  match p with
  | .bc => s.setBC v
  | .de => s.setDE v
  | .hl => s.setHL v
  | .sp => { s with sp := v }

/-- `rp2[p]` read (R114). -/
def Cpu.getRP2 (s : Cpu) (p : RP2) : Word :=
  match p with
  | .bc => s.bc
  | .de => s.de
  | .hl => s.hl
  | .af => s.af

/-- `rp2[p] <- v` (R114). -/
def Cpu.setRP2 (s : Cpu) (p : RP2) (v : Word) : Cpu :=
  match p with
  | .bc => s.setBC v
  | .de => s.setDE v
  | .hl => s.setHL v
  | .af => s.setAF v

/-- Whether a condition holds (R115). -/
def condHolds (cc : Cond) (f : Flags) : Bool :=
  match cc with
  | .nz => !f.z
  | .z => f.z
  | .nc => !f.c
  | .c => f.c

/-- The high-page address `0xFF00 + n` (R159); no carry leaves the low byte. -/
def highPage (n : Byte) : Word := 0xFF00 + zext16 n

end Sys2Proof.Machine
end

