-- ==== Sys2Proof/Machine/Flags.lean ====
section
/-!
DEFINITION. Every result and flag computation of the instruction set, as
functions of the operand values and the flags before: exact integer arithmetic,
narrowed at the end (R207).
-/

namespace Sys2Proof.Machine

/-- The carry as the integer 0 or 1. -/
def Flags.carryIn (f : Flags) : Nat := f.c.toNat

/-- A result byte and the flags after. -/
structure Computed where
  value : Byte
  flags : Flags
deriving DecidableEq, Repr

/-- `v mod 256` of an integer. -/
def byteOf (n : Nat) : Byte := BitVec.ofNat 8 n

/-- Addition with carry-in `c` (R191 with `c = 0`, R192). -/
def addBytes (a s : Byte) (c : Nat) : Computed :=
  let sum := a.toNat + s.toNat + c
  { value := byteOf sum
    flags :=
      { z := byteOf sum == 0
        n := false
        h := decide (a.toNat % 16 + s.toNat % 16 + c > 0xF)
        c := decide (sum > 0xFF) } }

/-- Subtraction with borrow-in `c` (R193 with `c = 0`, R194): the borrows are
integer comparisons, the result is `(a - s - c) mod 256`. -/
def subBytes (a s : Byte) (c : Nat) : Computed :=
  let diff := byteOf (a.toNat + 0x200 - s.toNat - c)
  { value := diff
    flags :=
      { z := diff == 0
        n := true
        h := decide (a.toNat % 16 < s.toNat % 16 + c)
        c := decide (a.toNat < s.toNat + c) } }

/-- The flags of a bitwise operation: Z of the result, N 0, H as given, C 0
(R195 to R197). -/
def logicResult (v : Byte) (h : Bool) : Computed where
  value := v
  flags := { z := v == 0, n := false, h := h, c := false }

/-- The eight accumulator operations (R191 to R198) on `A` and the source byte;
`CP` keeps `A`. -/
def aluApply (op : AluOp) (a s : Byte) (f : Flags) : Computed :=
  match op with
  | .add => addBytes a s 0
  | .adc => addBytes a s f.carryIn
  | .sub => subBytes a s 0
  | .sbc => subBytes a s f.carryIn
  | .and => logicResult (a &&& s) true
  | .xor => logicResult (a ^^^ s) false
  | .or => logicResult (a ||| s) false
  | .cp => { subBytes a s 0 with value := a }

/-- Increment of a byte (R199): C is kept. -/
def incByte (v : Byte) (f : Flags) : Computed where
  value := v + 1
  flags := { z := v + 1 == 0, n := false, h := decide (v.toNat % 16 = 0xF), c := f.c }

/-- Decrement of a byte (R201): C is kept. -/
def decByte (v : Byte) (f : Flags) : Computed where
  value := v - 1
  flags := { z := v - 1 == 0, n := true, h := decide (v.toNat % 16 = 0x0), c := f.c }

/-- The correction of `DAA` after an addition (R203), from the original `A`. -/
def daaAddAdjust (a : Byte) (f : Flags) : Nat :=
  (if f.h || decide (a.toNat % 16 > 9) then 0x06 else 0) +
    (if f.c || decide (a.toNat > 0x99) then 0x60 else 0)

/-- The correction of `DAA` after a subtraction (R203). -/
def daaSubAdjust (f : Flags) : Nat :=
  (if f.h then 0x06 else 0) + (if f.c then 0x60 else 0)

/-- `DAA` (R203): N is kept, H cleared, C set by the add branch, never cleared. -/
def daa (a : Byte) (f : Flags) : Computed :=
  let value :=
    if f.n then byteOf (a.toNat + 0x100 - daaSubAdjust f) else byteOf (a.toNat + daaAddAdjust a f)
  let carry := f.c || (!f.n && decide (a.toNat > 0x99))
  { value := value, flags := { z := value == 0, n := f.n, h := false, c := carry } }

/-- `CPL` (R204): Z and C are kept. -/
def complement (a : Byte) (f : Flags) : Computed where
  value := a ^^^ 0xFF
  flags := { f with n := true, h := true }

/-- The flags after `SCF` (R205): Z is kept. -/
def setCarry (f : Flags) : Flags := { f with c := true, n := false, h := false }

/-- The flags after `CCF` (R206): Z is kept. -/
def complementCarry (f : Flags) : Flags := { f with c := !f.c, n := false, h := false }

/-- The sum of `ADD HL,rr` (R220). -/
def addWords (x y : Word) : Word := BitVec.ofNat 16 (x.toNat + y.toNat)

/-- The flags of `ADD HL,rr` (R220): carries out of bits 11 and 15, Z is kept. -/
def addWordsFlags (x y : Word) (f : Flags) : Flags where
  z := f.z
  n := false
  h := decide (x.toNat % 0x1000 + y.toNat % 0x1000 > 0xFFF)
  c := decide (x.toNat + y.toNat > 0xFFFF)

/-- `SP + sext_16(e)` modulo 2^16 (R173, R223). -/
def spPlus (sp : Word) (e : Byte) : Word := sp + sext16 e

/-- The flags of `LD HL,SP+e` and `ADD SP,e` (R173, R223): Z 0, N 0, the carries
of the unsigned sum of the low byte of SP and the byte `e`. -/
def spPlusFlags (sp : Word) (e : Byte) : Flags where
  z := false
  n := false
  h := decide (sp.toNat % 16 + e.toNat % 16 > 0xF)
  c := decide (sp.toNat % 0x100 + e.toNat > 0xFF)

/-- A rotated or shifted byte: the value, and the bit that becomes C. -/
structure Shifted where
  value : Byte
  out : Bool
deriving DecidableEq, Repr

/-- `v[6:0] : b`: one place left, `b` enters at bit 0. -/
def shiftLeftIn (v : Byte) (b : Bool) : Byte := v.extractLsb' 0 7 ++ BitVec.ofBool b

/-- `b : v[7:1]`: one place right, `b` enters at bit 7. -/
def shiftRightIn (v : Byte) (b : Bool) : Byte := BitVec.ofBool b ++ v.extractLsb' 1 7

/-- The eight rotates and shifts (R235 to R242), with the carry before; `SWAP`
clears C. -/
def rotShift (op : RotOp) (v : Byte) (carry : Bool) : Shifted :=
  match op with
  | .rlc => { value := shiftLeftIn v (v.getLsbD 7), out := v.getLsbD 7 }
  | .rrc => { value := shiftRightIn v (v.getLsbD 0), out := v.getLsbD 0 }
  | .rl => { value := shiftLeftIn v carry, out := v.getLsbD 7 }
  | .rr => { value := shiftRightIn v carry, out := v.getLsbD 0 }
  | .sla => { value := shiftLeftIn v false, out := v.getLsbD 7 }
  | .sra => { value := shiftRightIn v (v.getLsbD 7), out := v.getLsbD 0 }
  | .swap => { value := v.extractLsb' 0 4 ++ v.extractLsb' 4 4, out := false }
  | .srl => { value := shiftRightIn v false, out := v.getLsbD 0 }

/-- An extended-table rotate or shift (R235 to R242): Z of the result. -/
def rotApply (op : RotOp) (v : Byte) (f : Flags) : Computed :=
  let r := rotShift op v f.c
  { value := r.value, flags := { z := r.value == 0, n := false, h := false, c := r.out } }

/-- An accumulator rotate (R230 to R233): Z is 0 whatever the result. -/
def rotAccApply (op : RotOp) (v : Byte) (f : Flags) : Computed :=
  let r := rotShift op v f.c
  { value := r.value, flags := { z := false, n := false, h := false, c := r.out } }

/-- The flags of `BIT b` (R243): C is kept. -/
def bitFlags (v : Byte) (b : Index3) (f : Flags) : Flags where
  z := !v.getLsbD b.toNat
  n := false
  h := true
  c := f.c

/-- `1 << b` as a byte. -/
def bitMask (b : Index3) : Byte := BitVec.ofNat 8 (2 ^ b.toNat)

/-- `RES b` (R244). -/
def clearBit (v : Byte) (b : Index3) : Byte := v &&& ~~~bitMask b

/-- `SET b` (R245). -/
def setBit (v : Byte) (b : Index3) : Byte := v ||| bitMask b

end Sys2Proof.Machine
end

