-- ==== Sys2Proof/Machine/Load8.lean ====
section
/-!
DEFINITION. 8-bit loads (R140 to R158): the shared operations, then one meaning
per instruction. Every operand byte is in the instruction; the `PC` is already
past it (R12).
-/

namespace Sys2Proof.Machine

/-- `LD r,r'` (R140). -/
def ldRegReg (dst r : Reg) (s : State) : Result := .next ((s.setReg dst (s.cpu.get r)).cycles 4)

/-- `LD r,n` (R141). -/
def ldRegN (dst : Reg) (n : Byte) (s : State) : Result := .next ((s.setReg dst n).cycles 8)

/-- `LD r,(HL)` (R142): the address is the old `HL`. -/
def ldRegAtHL (dst : Reg) (s : State) : Result := .next ((s.setReg dst (s.memRead s.cpu.hl)).cycles 8)

/-- `LD (HL),r` (R143). -/
def ldAtHLReg (r : Reg) (s : State) : Result := .next ((s.memWrite s.cpu.hl (s.cpu.get r)).cycles 8)

/-- `LD A,(a)` at an effective address of R159, with its cost (R145, R146, R149,
R151, R154). -/
def loadA (a : Word) (cost : Nat) (s : State) : Result := .next ((s.setReg .a (s.memRead a)).cycles cost)

/-- `LD (a),A` at an effective address of R159, with its cost (R147, R148, R150,
R152, R153). -/
def storeA (a : Word) (cost : Nat) (s : State) : Result := .next ((s.memWrite a s.cpu.a).cycles cost)

/-- `LD (HL+),A` and `LD (HL-),A` (R155, R157): store at `HL`, then move `HL`. -/
def storeAMoveHL (step : Word) (s : State) : Result :=
  .next (((s.memWrite s.cpu.hl s.cpu.a).setHL (s.cpu.hl + step)).cycles 8)

/-- `LD A,(HL+)` and `LD A,(HL-)` (R156, R158): load from `HL`, then move `HL`. -/
def loadAMoveHL (step : Word) (s : State) : Result :=
  .next (((s.setReg .a (s.memRead s.cpu.hl)).setHL (s.cpu.hl + step)).cycles 8)

/-! ### The instructions -/

/-- `LD (BC),A` (R147). -/
def execLdAtBCA (s : State) : Result := storeA s.cpu.bc 8 s

/-- `LD B,n` (R141). -/
def execLdBN (n : Byte) (s : State) : Result := ldRegN .b n s

/-- `LD A,(BC)` (R145). -/
def execLdAAtBC (s : State) : Result := loadA s.cpu.bc 8 s

/-- `LD C,n` (R141). -/
def execLdCN (n : Byte) (s : State) : Result := ldRegN .c n s

/-- `LD (DE),A` (R148). -/
def execLdAtDEA (s : State) : Result := storeA s.cpu.de 8 s

/-- `LD D,n` (R141). -/
def execLdDN (n : Byte) (s : State) : Result := ldRegN .d n s

/-- `LD A,(DE)` (R146). -/
def execLdAAtDE (s : State) : Result := loadA s.cpu.de 8 s

/-- `LD E,n` (R141). -/
def execLdEN (n : Byte) (s : State) : Result := ldRegN .e n s

/-- `LD (HL+),A` (R155). -/
def execLdAtHLIncA (s : State) : Result := storeAMoveHL 1 s

/-- `LD H,n` (R141). -/
def execLdHN (n : Byte) (s : State) : Result := ldRegN .h n s

/-- `LD A,(HL+)` (R156). -/
def execLdAAtHLInc (s : State) : Result := loadAMoveHL 1 s

/-- `LD L,n` (R141). -/
def execLdLN (n : Byte) (s : State) : Result := ldRegN .l n s

/-- `LD (HL-),A` (R157). -/
def execLdAtHLDecA (s : State) : Result := storeAMoveHL (-1) s

/-- `LD (HL),n` (R144). -/
def execLdAtHLN (n : Byte) (s : State) : Result := .next ((s.memWrite s.cpu.hl n).cycles 12)

/-- `LD A,(HL-)` (R158). -/
def execLdAAtHLDec (s : State) : Result := loadAMoveHL (-1) s

/-- `LD A,n` (R141). -/
def execLdAN (n : Byte) (s : State) : Result := ldRegN .a n s

/-- `LD B,B` (R140). -/
def execLdBB (s : State) : Result := ldRegReg .b .b s

/-- `LD B,C` (R140). -/
def execLdBC (s : State) : Result := ldRegReg .b .c s

/-- `LD B,D` (R140). -/
def execLdBD (s : State) : Result := ldRegReg .b .d s

/-- `LD B,E` (R140). -/
def execLdBE (s : State) : Result := ldRegReg .b .e s

/-- `LD B,H` (R140). -/
def execLdBH (s : State) : Result := ldRegReg .b .h s

/-- `LD B,L` (R140). -/
def execLdBL (s : State) : Result := ldRegReg .b .l s

/-- `LD B,(HL)` (R142). -/
def execLdBAtHL (s : State) : Result := ldRegAtHL .b s

/-- `LD B,A` (R140). -/
def execLdBA (s : State) : Result := ldRegReg .b .a s

/-- `LD C,B` (R140). -/
def execLdCB (s : State) : Result := ldRegReg .c .b s

/-- `LD C,C` (R140). -/
def execLdCC (s : State) : Result := ldRegReg .c .c s

/-- `LD C,D` (R140). -/
def execLdCD (s : State) : Result := ldRegReg .c .d s

/-- `LD C,E` (R140). -/
def execLdCE (s : State) : Result := ldRegReg .c .e s

/-- `LD C,H` (R140). -/
def execLdCH (s : State) : Result := ldRegReg .c .h s

/-- `LD C,L` (R140). -/
def execLdCL (s : State) : Result := ldRegReg .c .l s

/-- `LD C,(HL)` (R142). -/
def execLdCAtHL (s : State) : Result := ldRegAtHL .c s

/-- `LD C,A` (R140). -/
def execLdCA (s : State) : Result := ldRegReg .c .a s

/-- `LD D,B` (R140). -/
def execLdDB (s : State) : Result := ldRegReg .d .b s

/-- `LD D,C` (R140). -/
def execLdDC (s : State) : Result := ldRegReg .d .c s

/-- `LD D,D` (R140). -/
def execLdDD (s : State) : Result := ldRegReg .d .d s

/-- `LD D,E` (R140). -/
def execLdDE (s : State) : Result := ldRegReg .d .e s

/-- `LD D,H` (R140). -/
def execLdDH (s : State) : Result := ldRegReg .d .h s

/-- `LD D,L` (R140). -/
def execLdDL (s : State) : Result := ldRegReg .d .l s

/-- `LD D,(HL)` (R142). -/
def execLdDAtHL (s : State) : Result := ldRegAtHL .d s

/-- `LD D,A` (R140). -/
def execLdDA (s : State) : Result := ldRegReg .d .a s

/-- `LD E,B` (R140). -/
def execLdEB (s : State) : Result := ldRegReg .e .b s

/-- `LD E,C` (R140). -/
def execLdEC (s : State) : Result := ldRegReg .e .c s

/-- `LD E,D` (R140). -/
def execLdED (s : State) : Result := ldRegReg .e .d s

/-- `LD E,E` (R140). -/
def execLdEE (s : State) : Result := ldRegReg .e .e s

/-- `LD E,H` (R140). -/
def execLdEH (s : State) : Result := ldRegReg .e .h s

/-- `LD E,L` (R140). -/
def execLdEL (s : State) : Result := ldRegReg .e .l s

/-- `LD E,(HL)` (R142). -/
def execLdEAtHL (s : State) : Result := ldRegAtHL .e s

/-- `LD E,A` (R140). -/
def execLdEA (s : State) : Result := ldRegReg .e .a s

/-- `LD H,B` (R140). -/
def execLdHB (s : State) : Result := ldRegReg .h .b s

/-- `LD H,C` (R140). -/
def execLdHC (s : State) : Result := ldRegReg .h .c s

/-- `LD H,D` (R140). -/
def execLdHD (s : State) : Result := ldRegReg .h .d s

/-- `LD H,E` (R140). -/
def execLdHE (s : State) : Result := ldRegReg .h .e s

/-- `LD H,H` (R140). -/
def execLdHH (s : State) : Result := ldRegReg .h .h s

/-- `LD H,L` (R140). -/
def execLdHL (s : State) : Result := ldRegReg .h .l s

/-- `LD H,(HL)` (R142). -/
def execLdHAtHL (s : State) : Result := ldRegAtHL .h s

/-- `LD H,A` (R140). -/
def execLdHA (s : State) : Result := ldRegReg .h .a s

/-- `LD L,B` (R140). -/
def execLdLB (s : State) : Result := ldRegReg .l .b s

/-- `LD L,C` (R140). -/
def execLdLC (s : State) : Result := ldRegReg .l .c s

/-- `LD L,D` (R140). -/
def execLdLD (s : State) : Result := ldRegReg .l .d s

/-- `LD L,E` (R140). -/
def execLdLE (s : State) : Result := ldRegReg .l .e s

/-- `LD L,H` (R140). -/
def execLdLH (s : State) : Result := ldRegReg .l .h s

/-- `LD L,L` (R140). -/
def execLdLL (s : State) : Result := ldRegReg .l .l s

/-- `LD L,(HL)` (R142). -/
def execLdLAtHL (s : State) : Result := ldRegAtHL .l s

/-- `LD L,A` (R140). -/
def execLdLA (s : State) : Result := ldRegReg .l .a s

/-- `LD (HL),B` (R143). -/
def execLdAtHLB (s : State) : Result := ldAtHLReg .b s

/-- `LD (HL),C` (R143). -/
def execLdAtHLC (s : State) : Result := ldAtHLReg .c s

/-- `LD (HL),D` (R143). -/
def execLdAtHLD (s : State) : Result := ldAtHLReg .d s

/-- `LD (HL),E` (R143). -/
def execLdAtHLE (s : State) : Result := ldAtHLReg .e s

/-- `LD (HL),H` (R143). -/
def execLdAtHLH (s : State) : Result := ldAtHLReg .h s

/-- `LD (HL),L` (R143). -/
def execLdAtHLL (s : State) : Result := ldAtHLReg .l s

/-- `LD (HL),A` (R143). -/
def execLdAtHLA (s : State) : Result := ldAtHLReg .a s

/-- `LD A,B` (R140). -/
def execLdAB (s : State) : Result := ldRegReg .a .b s

/-- `LD A,C` (R140). -/
def execLdAC (s : State) : Result := ldRegReg .a .c s

/-- `LD A,D` (R140). -/
def execLdAD (s : State) : Result := ldRegReg .a .d s

/-- `LD A,E` (R140). -/
def execLdAE (s : State) : Result := ldRegReg .a .e s

/-- `LD A,H` (R140). -/
def execLdAH (s : State) : Result := ldRegReg .a .h s

/-- `LD A,L` (R140). -/
def execLdAL (s : State) : Result := ldRegReg .a .l s

/-- `LD A,(HL)` (R142). -/
def execLdAAtHL (s : State) : Result := ldRegAtHL .a s

/-- `LD A,A` (R140). -/
def execLdAA (s : State) : Result := ldRegReg .a .a s

/-- `LDH (n),A` (R152). -/
def execLdhAtNA (n : Byte) (s : State) : Result := storeA (highPage n) 12 s

/-- `LDH (C),A` (R153). -/
def execLdhAtCA (s : State) : Result := storeA (highPage s.cpu.c) 8 s

/-- `LD (nn),A` (R150). -/
def execLdAtNnA (nn : Word) (s : State) : Result := storeA nn 16 s

/-- `LDH A,(n)` (R151). -/
def execLdhAAtN (n : Byte) (s : State) : Result := loadA (highPage n) 12 s

/-- `LDH A,(C)` (R154). -/
def execLdhAAtC (s : State) : Result := loadA (highPage s.cpu.c) 8 s

/-- `LD A,(nn)` (R149). -/
def execLdAAtNn (nn : Word) (s : State) : Result := loadA nn 16 s

end Sys2Proof.Machine
end

