-- ==== Sys2Proof/Machine/Load16.lean ====
section
/-!
DEFINITION. 16-bit loads and the stack (R170 to R176).
-/

namespace Sys2Proof.Machine

/-- `LD rr,nn` (R170). -/
def ldRPN (p : RP) (nn : Word) (s : State) : Result := .next (State.cycles { s with cpu := s.cpu.setRP p nn } 12)

/-- `LD (nn),SP` (R171): low byte at `nn`, high byte at `nn + 1`. -/
def storeSP (nn : Word) (s : State) : Result :=
  .next (((s.memWrite nn (loByte s.cpu.sp)).memWrite (nn + 1) (hiByte s.cpu.sp)).cycles 20)

/-- `PUSH rr` (R175): the pair is read before `SP` changes. -/
def pushRP2 (p : RP2) (s : State) : Result := .next ((s.push16 (s.cpu.getRP2 p)).cycles 16)

/-- `POP rr` (R176). -/
def popRP2 (p : RP2) (s : State) : Result :=
  .next (State.cycles { s.popped with cpu := s.popped.cpu.setRP2 p s.popValue } 12)

/-! ### The instructions -/

/-- `LD BC,nn` (R170). -/
def execLdBCNn (nn : Word) (s : State) : Result := ldRPN .bc nn s

/-- `LD (nn),SP` (R171). -/
def execLdAtNnSP (nn : Word) (s : State) : Result := storeSP nn s

/-- `LD DE,nn` (R170). -/
def execLdDENn (nn : Word) (s : State) : Result := ldRPN .de nn s

/-- `LD HL,nn` (R170). -/
def execLdHLNn (nn : Word) (s : State) : Result := ldRPN .hl nn s

/-- `LD SP,nn` (R170). -/
def execLdSPNn (nn : Word) (s : State) : Result := ldRPN .sp nn s

/-- `POP BC` (R176). -/
def execPopBC (s : State) : Result := popRP2 .bc s

/-- `PUSH BC` (R175). -/
def execPushBC (s : State) : Result := pushRP2 .bc s

/-- `POP DE` (R176). -/
def execPopDE (s : State) : Result := popRP2 .de s

/-- `PUSH DE` (R175). -/
def execPushDE (s : State) : Result := pushRP2 .de s

/-- `POP HL` (R176). -/
def execPopHL (s : State) : Result := popRP2 .hl s

/-- `PUSH HL` (R175). -/
def execPushHL (s : State) : Result := pushRP2 .hl s

/-- `POP AF` (R176). -/
def execPopAF (s : State) : Result := popRP2 .af s

/-- `PUSH AF` (R175). -/
def execPushAF (s : State) : Result := pushRP2 .af s

/-- `LD HL,SP+e` (R173). -/
def execLdHLSPE (e : Byte) (s : State) : Result :=
  .next (((s.setHL (spPlus s.cpu.sp e)).setFlags (spPlusFlags s.cpu.sp e)).cycles 12)

/-- `LD SP,HL` (R172). -/
def execLdSPHL (s : State) : Result := .next ((s.setSP s.cpu.hl).cycles 8)

end Sys2Proof.Machine
end

