-- ==== Sys2Proof/Machine/Alu8.lean ====
section
/-!
DEFINITION. 8-bit arithmetic and logic (R190 to R206).
-/

namespace Sys2Proof.Machine

/-- Write `A` and the flags of a computation. -/
def State.setAcc (s : State) (r : Computed) : State := (s.setReg .a r.value).setFlags r.flags

/-- An accumulator operation with a register or the byte at `HL` (R190 to R198). -/
def aluR8 (op : AluOp) (x : R8) (s : State) : Result :=
  .next ((s.setAcc (aluApply op s.cpu.a (s.readR8 x) s.cpu.flags)).cycles (r8Cost x 4 8))

/-- An accumulator operation with an immediate (R190 to R198). -/
def aluN (op : AluOp) (n : Byte) (s : State) : Result :=
  .next ((s.setAcc (aluApply op s.cpu.a n s.cpu.flags)).cycles 8)

/-- `INC r` and `INC (HL)` (R199, R200). -/
def incR8 (x : R8) (s : State) : Result :=
  let r := incByte (s.readR8 x) s.cpu.flags
  .next (((s.writeR8 x r.value).setFlags r.flags).cycles (r8Cost x 4 12))

/-- `DEC r` and `DEC (HL)` (R201, R202). -/
def decR8 (x : R8) (s : State) : Result :=
  let r := decByte (s.readR8 x) s.cpu.flags
  .next (((s.writeR8 x r.value).setFlags r.flags).cycles (r8Cost x 4 12))

/-- `DAA` and `CPL`: a computation on `A` and the flags (R203, R204). -/
def accOp (f : Byte → Flags → Computed) (s : State) : Result :=
  .next ((s.setAcc (f s.cpu.a s.cpu.flags)).cycles 4)

/-- `SCF` and `CCF`: a computation on the flags (R205, R206). -/
def flagOp (f : Flags → Flags) (s : State) : Result := .next ((s.setFlags (f s.cpu.flags)).cycles 4)

/-! ### The instructions -/

/-- `INC B` (R199). -/
def execIncB (s : State) : Result := incR8 (.reg .b) s

/-- `DEC B` (R201). -/
def execDecB (s : State) : Result := decR8 (.reg .b) s

/-- `INC C` (R199). -/
def execIncC (s : State) : Result := incR8 (.reg .c) s

/-- `DEC C` (R201). -/
def execDecC (s : State) : Result := decR8 (.reg .c) s

/-- `INC D` (R199). -/
def execIncD (s : State) : Result := incR8 (.reg .d) s

/-- `DEC D` (R201). -/
def execDecD (s : State) : Result := decR8 (.reg .d) s

/-- `INC E` (R199). -/
def execIncE (s : State) : Result := incR8 (.reg .e) s

/-- `DEC E` (R201). -/
def execDecE (s : State) : Result := decR8 (.reg .e) s

/-- `INC H` (R199). -/
def execIncH (s : State) : Result := incR8 (.reg .h) s

/-- `DEC H` (R201). -/
def execDecH (s : State) : Result := decR8 (.reg .h) s

/-- `DAA` (R203). -/
def execDaa (s : State) : Result := accOp daa s

/-- `INC L` (R199). -/
def execIncL (s : State) : Result := incR8 (.reg .l) s

/-- `DEC L` (R201). -/
def execDecL (s : State) : Result := decR8 (.reg .l) s

/-- `CPL` (R204). -/
def execCpl (s : State) : Result := accOp complement s

/-- `INC (HL)` (R200). -/
def execIncAtHL (s : State) : Result := incR8 .atHL s

/-- `DEC (HL)` (R202). -/
def execDecAtHL (s : State) : Result := decR8 .atHL s

/-- `SCF` (R205). -/
def execScf (s : State) : Result := flagOp setCarry s

/-- `INC A` (R199). -/
def execIncA (s : State) : Result := incR8 (.reg .a) s

/-- `DEC A` (R201). -/
def execDecA (s : State) : Result := decR8 (.reg .a) s

/-- `CCF` (R206). -/
def execCcf (s : State) : Result := flagOp complementCarry s

/-- `ADD A,B` (R191). -/
def execAddAB (s : State) : Result := aluR8 .add (.reg .b) s

/-- `ADD A,C` (R191). -/
def execAddAC (s : State) : Result := aluR8 .add (.reg .c) s

/-- `ADD A,D` (R191). -/
def execAddAD (s : State) : Result := aluR8 .add (.reg .d) s

/-- `ADD A,E` (R191). -/
def execAddAE (s : State) : Result := aluR8 .add (.reg .e) s

/-- `ADD A,H` (R191). -/
def execAddAH (s : State) : Result := aluR8 .add (.reg .h) s

/-- `ADD A,L` (R191). -/
def execAddAL (s : State) : Result := aluR8 .add (.reg .l) s

/-- `ADD A,(HL)` (R191). -/
def execAddAAtHL (s : State) : Result := aluR8 .add .atHL s

/-- `ADD A,A` (R191). -/
def execAddAA (s : State) : Result := aluR8 .add (.reg .a) s

/-- `ADC A,B` (R192). -/
def execAdcAB (s : State) : Result := aluR8 .adc (.reg .b) s

/-- `ADC A,C` (R192). -/
def execAdcAC (s : State) : Result := aluR8 .adc (.reg .c) s

/-- `ADC A,D` (R192). -/
def execAdcAD (s : State) : Result := aluR8 .adc (.reg .d) s

/-- `ADC A,E` (R192). -/
def execAdcAE (s : State) : Result := aluR8 .adc (.reg .e) s

/-- `ADC A,H` (R192). -/
def execAdcAH (s : State) : Result := aluR8 .adc (.reg .h) s

/-- `ADC A,L` (R192). -/
def execAdcAL (s : State) : Result := aluR8 .adc (.reg .l) s

/-- `ADC A,(HL)` (R192). -/
def execAdcAAtHL (s : State) : Result := aluR8 .adc .atHL s

/-- `ADC A,A` (R192). -/
def execAdcAA (s : State) : Result := aluR8 .adc (.reg .a) s

/-- `SUB B` (R193). -/
def execSubB (s : State) : Result := aluR8 .sub (.reg .b) s

/-- `SUB C` (R193). -/
def execSubC (s : State) : Result := aluR8 .sub (.reg .c) s

/-- `SUB D` (R193). -/
def execSubD (s : State) : Result := aluR8 .sub (.reg .d) s

/-- `SUB E` (R193). -/
def execSubE (s : State) : Result := aluR8 .sub (.reg .e) s

/-- `SUB H` (R193). -/
def execSubH (s : State) : Result := aluR8 .sub (.reg .h) s

/-- `SUB L` (R193). -/
def execSubL (s : State) : Result := aluR8 .sub (.reg .l) s

/-- `SUB (HL)` (R193). -/
def execSubAtHL (s : State) : Result := aluR8 .sub .atHL s

/-- `SUB A` (R193). -/
def execSubA (s : State) : Result := aluR8 .sub (.reg .a) s

/-- `SBC A,B` (R194). -/
def execSbcAB (s : State) : Result := aluR8 .sbc (.reg .b) s

/-- `SBC A,C` (R194). -/
def execSbcAC (s : State) : Result := aluR8 .sbc (.reg .c) s

/-- `SBC A,D` (R194). -/
def execSbcAD (s : State) : Result := aluR8 .sbc (.reg .d) s

/-- `SBC A,E` (R194). -/
def execSbcAE (s : State) : Result := aluR8 .sbc (.reg .e) s

/-- `SBC A,H` (R194). -/
def execSbcAH (s : State) : Result := aluR8 .sbc (.reg .h) s

/-- `SBC A,L` (R194). -/
def execSbcAL (s : State) : Result := aluR8 .sbc (.reg .l) s

/-- `SBC A,(HL)` (R194). -/
def execSbcAAtHL (s : State) : Result := aluR8 .sbc .atHL s

/-- `SBC A,A` (R194). -/
def execSbcAA (s : State) : Result := aluR8 .sbc (.reg .a) s

/-- `AND B` (R195). -/
def execAndB (s : State) : Result := aluR8 .and (.reg .b) s

/-- `AND C` (R195). -/
def execAndC (s : State) : Result := aluR8 .and (.reg .c) s

/-- `AND D` (R195). -/
def execAndD (s : State) : Result := aluR8 .and (.reg .d) s

/-- `AND E` (R195). -/
def execAndE (s : State) : Result := aluR8 .and (.reg .e) s

/-- `AND H` (R195). -/
def execAndH (s : State) : Result := aluR8 .and (.reg .h) s

/-- `AND L` (R195). -/
def execAndL (s : State) : Result := aluR8 .and (.reg .l) s

/-- `AND (HL)` (R195). -/
def execAndAtHL (s : State) : Result := aluR8 .and .atHL s

/-- `AND A` (R195). -/
def execAndA (s : State) : Result := aluR8 .and (.reg .a) s

/-- `XOR B` (R196). -/
def execXorB (s : State) : Result := aluR8 .xor (.reg .b) s

/-- `XOR C` (R196). -/
def execXorC (s : State) : Result := aluR8 .xor (.reg .c) s

/-- `XOR D` (R196). -/
def execXorD (s : State) : Result := aluR8 .xor (.reg .d) s

/-- `XOR E` (R196). -/
def execXorE (s : State) : Result := aluR8 .xor (.reg .e) s

/-- `XOR H` (R196). -/
def execXorH (s : State) : Result := aluR8 .xor (.reg .h) s

/-- `XOR L` (R196). -/
def execXorL (s : State) : Result := aluR8 .xor (.reg .l) s

/-- `XOR (HL)` (R196). -/
def execXorAtHL (s : State) : Result := aluR8 .xor .atHL s

/-- `XOR A` (R196). -/
def execXorA (s : State) : Result := aluR8 .xor (.reg .a) s

/-- `OR B` (R197). -/
def execOrB (s : State) : Result := aluR8 .or (.reg .b) s

/-- `OR C` (R197). -/
def execOrC (s : State) : Result := aluR8 .or (.reg .c) s

/-- `OR D` (R197). -/
def execOrD (s : State) : Result := aluR8 .or (.reg .d) s

/-- `OR E` (R197). -/
def execOrE (s : State) : Result := aluR8 .or (.reg .e) s

/-- `OR H` (R197). -/
def execOrH (s : State) : Result := aluR8 .or (.reg .h) s

/-- `OR L` (R197). -/
def execOrL (s : State) : Result := aluR8 .or (.reg .l) s

/-- `OR (HL)` (R197). -/
def execOrAtHL (s : State) : Result := aluR8 .or .atHL s

/-- `OR A` (R197). -/
def execOrA (s : State) : Result := aluR8 .or (.reg .a) s

/-- `CP B` (R198). -/
def execCpB (s : State) : Result := aluR8 .cp (.reg .b) s

/-- `CP C` (R198). -/
def execCpC (s : State) : Result := aluR8 .cp (.reg .c) s

/-- `CP D` (R198). -/
def execCpD (s : State) : Result := aluR8 .cp (.reg .d) s

/-- `CP E` (R198). -/
def execCpE (s : State) : Result := aluR8 .cp (.reg .e) s

/-- `CP H` (R198). -/
def execCpH (s : State) : Result := aluR8 .cp (.reg .h) s

/-- `CP L` (R198). -/
def execCpL (s : State) : Result := aluR8 .cp (.reg .l) s

/-- `CP (HL)` (R198). -/
def execCpAtHL (s : State) : Result := aluR8 .cp .atHL s

/-- `CP A` (R198). -/
def execCpA (s : State) : Result := aluR8 .cp (.reg .a) s

/-- `ADD A,n` (R191). -/
def execAddAN (n : Byte) (s : State) : Result := aluN .add n s

/-- `ADC A,n` (R192). -/
def execAdcAN (n : Byte) (s : State) : Result := aluN .adc n s

/-- `SUB n` (R193). -/
def execSubN (n : Byte) (s : State) : Result := aluN .sub n s

/-- `SBC A,n` (R194). -/
def execSbcAN (n : Byte) (s : State) : Result := aluN .sbc n s

/-- `AND n` (R195). -/
def execAndN (n : Byte) (s : State) : Result := aluN .and n s

/-- `XOR n` (R196). -/
def execXorN (n : Byte) (s : State) : Result := aluN .xor n s

/-- `OR n` (R197). -/
def execOrN (n : Byte) (s : State) : Result := aluN .or n s

/-- `CP n` (R198). -/
def execCpN (n : Byte) (s : State) : Result := aluN .cp n s

end Sys2Proof.Machine
end

