-- ==== Sys2Proof/Machine/Alu16.lean ====
section
/-!
DEFINITION. 16-bit arithmetic (R173, R220 to R223).
-/

namespace Sys2Proof.Machine

/-- `ADD HL,rr` (R220). -/
def addHL (p : RP) (s : State) : Result :=
  let v := s.cpu.getRP p
  .next (((s.setHL (addWords s.cpu.hl v)).setFlags (addWordsFlags s.cpu.hl v s.cpu.flags)).cycles 8)

/-- `INC rr` and `DEC rr` (R221, R222): no flag changes. -/
def stepRP (p : RP) (step : Word) (s : State) : Result :=
  .next (State.cycles { s with cpu := s.cpu.setRP p (s.cpu.getRP p + step) } 8)

/-! ### The instructions -/

/-- `INC BC` (R221). -/
def execIncBC (s : State) : Result := stepRP .bc 1 s

/-- `ADD HL,BC` (R220). -/
def execAddHLBC (s : State) : Result := addHL .bc s

/-- `DEC BC` (R222). -/
def execDecBC (s : State) : Result := stepRP .bc (-1) s

/-- `INC DE` (R221). -/
def execIncDE (s : State) : Result := stepRP .de 1 s

/-- `ADD HL,DE` (R220). -/
def execAddHLDE (s : State) : Result := addHL .de s

/-- `DEC DE` (R222). -/
def execDecDE (s : State) : Result := stepRP .de (-1) s

/-- `INC HL` (R221). -/
def execIncHL (s : State) : Result := stepRP .hl 1 s

/-- `ADD HL,HL` (R220). -/
def execAddHLHL (s : State) : Result := addHL .hl s

/-- `DEC HL` (R222). -/
def execDecHL (s : State) : Result := stepRP .hl (-1) s

/-- `INC SP` (R221). -/
def execIncSP (s : State) : Result := stepRP .sp 1 s

/-- `ADD HL,SP` (R220). -/
def execAddHLSP (s : State) : Result := addHL .sp s

/-- `DEC SP` (R222). -/
def execDecSP (s : State) : Result := stepRP .sp (-1) s

/-- `ADD SP,e` (R223). -/
def execAddSPE (e : Byte) (s : State) : Result :=
  .next (((s.setSP (spPlus s.cpu.sp e)).setFlags (spPlusFlags s.cpu.sp e)).cycles 16)

end Sys2Proof.Machine
end

