-- ==== Sys2Proof/Machine/Rotate.lean ====
section
/-!
DEFINITION. Rotates, shifts and swap (R230 to R242): the accumulator rotates of
the main table, then the extended table.
-/

namespace Sys2Proof.Machine

/-- `RLCA`, `RRCA`, `RLA`, `RRA` (R230 to R233). -/
def rotateAcc (op : RotOp) (s : State) : Result :=
  .next ((s.setAcc (rotAccApply op s.cpu.a s.cpu.flags)).cycles 4)

/-- An extended-table rotate or shift on `r8[z]` (R234 to R242). -/
def rotateR8 (op : RotOp) (x : R8) (s : State) : Result :=
  let r := rotApply op (s.readR8 x) s.cpu.flags
  .next (((s.writeR8 x r.value).setFlags r.flags).cycles (r8Cost x 8 16))

/-! ### The instructions -/

/-- `RLCA` (R230). -/
def execRlca (s : State) : Result := rotateAcc .rlc s

/-- `RRCA` (R231). -/
def execRrca (s : State) : Result := rotateAcc .rrc s

/-- `RLA` (R232). -/
def execRla (s : State) : Result := rotateAcc .rl s

/-- `RRA` (R233). -/
def execRra (s : State) : Result := rotateAcc .rr s

/-- `RLC B` (R235). -/
def execRlcB (s : State) : Result := rotateR8 .rlc (.reg .b) s

/-- `RLC C` (R235). -/
def execRlcC (s : State) : Result := rotateR8 .rlc (.reg .c) s

/-- `RLC D` (R235). -/
def execRlcD (s : State) : Result := rotateR8 .rlc (.reg .d) s

/-- `RLC E` (R235). -/
def execRlcE (s : State) : Result := rotateR8 .rlc (.reg .e) s

/-- `RLC H` (R235). -/
def execRlcH (s : State) : Result := rotateR8 .rlc (.reg .h) s

/-- `RLC L` (R235). -/
def execRlcL (s : State) : Result := rotateR8 .rlc (.reg .l) s

/-- `RLC (HL)` (R235). -/
def execRlcAtHL (s : State) : Result := rotateR8 .rlc .atHL s

/-- `RLC A` (R235). -/
def execRlcA (s : State) : Result := rotateR8 .rlc (.reg .a) s

/-- `RRC B` (R236). -/
def execRrcB (s : State) : Result := rotateR8 .rrc (.reg .b) s

/-- `RRC C` (R236). -/
def execRrcC (s : State) : Result := rotateR8 .rrc (.reg .c) s

/-- `RRC D` (R236). -/
def execRrcD (s : State) : Result := rotateR8 .rrc (.reg .d) s

/-- `RRC E` (R236). -/
def execRrcE (s : State) : Result := rotateR8 .rrc (.reg .e) s

/-- `RRC H` (R236). -/
def execRrcH (s : State) : Result := rotateR8 .rrc (.reg .h) s

/-- `RRC L` (R236). -/
def execRrcL (s : State) : Result := rotateR8 .rrc (.reg .l) s

/-- `RRC (HL)` (R236). -/
def execRrcAtHL (s : State) : Result := rotateR8 .rrc .atHL s

/-- `RRC A` (R236). -/
def execRrcA (s : State) : Result := rotateR8 .rrc (.reg .a) s

/-- `RL B` (R237). -/
def execRlB (s : State) : Result := rotateR8 .rl (.reg .b) s

/-- `RL C` (R237). -/
def execRlC (s : State) : Result := rotateR8 .rl (.reg .c) s

/-- `RL D` (R237). -/
def execRlD (s : State) : Result := rotateR8 .rl (.reg .d) s

/-- `RL E` (R237). -/
def execRlE (s : State) : Result := rotateR8 .rl (.reg .e) s

/-- `RL H` (R237). -/
def execRlH (s : State) : Result := rotateR8 .rl (.reg .h) s

/-- `RL L` (R237). -/
def execRlL (s : State) : Result := rotateR8 .rl (.reg .l) s

/-- `RL (HL)` (R237). -/
def execRlAtHL (s : State) : Result := rotateR8 .rl .atHL s

/-- `RL A` (R237). -/
def execRlA (s : State) : Result := rotateR8 .rl (.reg .a) s

/-- `RR B` (R238). -/
def execRrB (s : State) : Result := rotateR8 .rr (.reg .b) s

/-- `RR C` (R238). -/
def execRrC (s : State) : Result := rotateR8 .rr (.reg .c) s

/-- `RR D` (R238). -/
def execRrD (s : State) : Result := rotateR8 .rr (.reg .d) s

/-- `RR E` (R238). -/
def execRrE (s : State) : Result := rotateR8 .rr (.reg .e) s

/-- `RR H` (R238). -/
def execRrH (s : State) : Result := rotateR8 .rr (.reg .h) s

/-- `RR L` (R238). -/
def execRrL (s : State) : Result := rotateR8 .rr (.reg .l) s

/-- `RR (HL)` (R238). -/
def execRrAtHL (s : State) : Result := rotateR8 .rr .atHL s

/-- `RR A` (R238). -/
def execRrA (s : State) : Result := rotateR8 .rr (.reg .a) s

/-- `SLA B` (R239). -/
def execSlaB (s : State) : Result := rotateR8 .sla (.reg .b) s

/-- `SLA C` (R239). -/
def execSlaC (s : State) : Result := rotateR8 .sla (.reg .c) s

/-- `SLA D` (R239). -/
def execSlaD (s : State) : Result := rotateR8 .sla (.reg .d) s

/-- `SLA E` (R239). -/
def execSlaE (s : State) : Result := rotateR8 .sla (.reg .e) s

/-- `SLA H` (R239). -/
def execSlaH (s : State) : Result := rotateR8 .sla (.reg .h) s

/-- `SLA L` (R239). -/
def execSlaL (s : State) : Result := rotateR8 .sla (.reg .l) s

/-- `SLA (HL)` (R239). -/
def execSlaAtHL (s : State) : Result := rotateR8 .sla .atHL s

/-- `SLA A` (R239). -/
def execSlaA (s : State) : Result := rotateR8 .sla (.reg .a) s

/-- `SRA B` (R240). -/
def execSraB (s : State) : Result := rotateR8 .sra (.reg .b) s

/-- `SRA C` (R240). -/
def execSraC (s : State) : Result := rotateR8 .sra (.reg .c) s

/-- `SRA D` (R240). -/
def execSraD (s : State) : Result := rotateR8 .sra (.reg .d) s

/-- `SRA E` (R240). -/
def execSraE (s : State) : Result := rotateR8 .sra (.reg .e) s

/-- `SRA H` (R240). -/
def execSraH (s : State) : Result := rotateR8 .sra (.reg .h) s

/-- `SRA L` (R240). -/
def execSraL (s : State) : Result := rotateR8 .sra (.reg .l) s

/-- `SRA (HL)` (R240). -/
def execSraAtHL (s : State) : Result := rotateR8 .sra .atHL s

/-- `SRA A` (R240). -/
def execSraA (s : State) : Result := rotateR8 .sra (.reg .a) s

/-- `SWAP B` (R241). -/
def execSwapB (s : State) : Result := rotateR8 .swap (.reg .b) s

/-- `SWAP C` (R241). -/
def execSwapC (s : State) : Result := rotateR8 .swap (.reg .c) s

/-- `SWAP D` (R241). -/
def execSwapD (s : State) : Result := rotateR8 .swap (.reg .d) s

/-- `SWAP E` (R241). -/
def execSwapE (s : State) : Result := rotateR8 .swap (.reg .e) s

/-- `SWAP H` (R241). -/
def execSwapH (s : State) : Result := rotateR8 .swap (.reg .h) s

/-- `SWAP L` (R241). -/
def execSwapL (s : State) : Result := rotateR8 .swap (.reg .l) s

/-- `SWAP (HL)` (R241). -/
def execSwapAtHL (s : State) : Result := rotateR8 .swap .atHL s

/-- `SWAP A` (R241). -/
def execSwapA (s : State) : Result := rotateR8 .swap (.reg .a) s

/-- `SRL B` (R242). -/
def execSrlB (s : State) : Result := rotateR8 .srl (.reg .b) s

/-- `SRL C` (R242). -/
def execSrlC (s : State) : Result := rotateR8 .srl (.reg .c) s

/-- `SRL D` (R242). -/
def execSrlD (s : State) : Result := rotateR8 .srl (.reg .d) s

/-- `SRL E` (R242). -/
def execSrlE (s : State) : Result := rotateR8 .srl (.reg .e) s

/-- `SRL H` (R242). -/
def execSrlH (s : State) : Result := rotateR8 .srl (.reg .h) s

/-- `SRL L` (R242). -/
def execSrlL (s : State) : Result := rotateR8 .srl (.reg .l) s

/-- `SRL (HL)` (R242). -/
def execSrlAtHL (s : State) : Result := rotateR8 .srl .atHL s

/-- `SRL A` (R242). -/
def execSrlA (s : State) : Result := rotateR8 .srl (.reg .a) s

end Sys2Proof.Machine
end

