-- ==== Sys2Proof/Machine/Control.lean ====
section
/-!
DEFINITION. Control transfer (R260 to R270). The `PC` a meaning starts from is
the address after the instruction (R12).
-/

namespace Sys2Proof.Machine

/-- A jump to `target` (R260, R262, R263). -/
def jump (target : Word) (cost : Nat) (s : State) : Result := .next ((s.setPC target).cycles cost)

/-- A conditional jump (R261, R264). -/
def jumpIf (cc : Cond) (target : Word) (notTaken taken : Nat) (s : State) : Result :=
  if condHolds cc s.cpu.flags then jump target taken s else .next (s.cycles notTaken)

/-- The target of `JR`: the address after the instruction plus `sext_16(e)`
(R263). -/
def relative (e : Byte) (s : State) : Word := s.cpu.pc + sext16 e

/-- `CALL` and `RST`: push the `PC`, then jump (R265, R270). -/
def call (target : Word) (cost : Nat) (s : State) : Result := .next (((s.push16 s.cpu.pc).setPC target).cycles cost)

/-- A conditional call (R266): not taken touches neither the stack nor `SP`. -/
def callIf (cc : Cond) (nn : Word) (s : State) : Result :=
  if condHolds cc s.cpu.flags then call nn 24 s else .next (s.cycles 12)

/-- A return: `PC <- Pop16()` (R267, R268). -/
def ret (cost : Nat) (s : State) : Result := .next ((s.popped.setPC s.popValue).cycles cost)

/-- A conditional return (R268): not taken reads nothing from the stack. -/
def retIf (cc : Cond) (s : State) : Result :=
  if condHolds cc s.cpu.flags then ret 20 s else .next (s.cycles 8)

/-- The restart target `y*8` (R118, R270). -/
def restartTarget (y : Index3) : Word := zext16 (byteOf (8 * y.toNat))

/-! ### The instructions -/

/-- `JR e` (R263). -/
def execJrE (e : Byte) (s : State) : Result := jump (relative e s) 12 s

/-- `JR NZ,e` (R264). -/
def execJrNZE (e : Byte) (s : State) : Result := jumpIf .nz (relative e s) 8 12 s

/-- `JR Z,e` (R264). -/
def execJrZE (e : Byte) (s : State) : Result := jumpIf .z (relative e s) 8 12 s

/-- `JR NC,e` (R264). -/
def execJrNCE (e : Byte) (s : State) : Result := jumpIf .nc (relative e s) 8 12 s

/-- `JR C,e` (R264). -/
def execJrCE (e : Byte) (s : State) : Result := jumpIf .c (relative e s) 8 12 s

/-- `RET NZ` (R268). -/
def execRetNZ (s : State) : Result := retIf .nz s

/-- `JP NZ,nn` (R261). -/
def execJpNZNn (nn : Word) (s : State) : Result := jumpIf .nz nn 12 16 s

/-- `JP nn` (R260). -/
def execJpNn (nn : Word) (s : State) : Result := jump nn 16 s

/-- `CALL NZ,nn` (R266). -/
def execCallNZNn (nn : Word) (s : State) : Result := callIf .nz nn s

/-- `RST 0x00` (R270). -/
def execRst00 (s : State) : Result := call (restartTarget .i0) 16 s

/-- `RET Z` (R268). -/
def execRetZ (s : State) : Result := retIf .z s

/-- `RET` (R267). -/
def execRet (s : State) : Result := ret 16 s

/-- `JP Z,nn` (R261). -/
def execJpZNn (nn : Word) (s : State) : Result := jumpIf .z nn 12 16 s

/-- `CALL Z,nn` (R266). -/
def execCallZNn (nn : Word) (s : State) : Result := callIf .z nn s

/-- `CALL nn` (R265). -/
def execCallNn (nn : Word) (s : State) : Result := call nn 24 s

/-- `RST 0x08` (R270). -/
def execRst08 (s : State) : Result := call (restartTarget .i1) 16 s

/-- `RET NC` (R268). -/
def execRetNC (s : State) : Result := retIf .nc s

/-- `JP NC,nn` (R261). -/
def execJpNCNn (nn : Word) (s : State) : Result := jumpIf .nc nn 12 16 s

/-- `CALL NC,nn` (R266). -/
def execCallNCNn (nn : Word) (s : State) : Result := callIf .nc nn s

/-- `RST 0x10` (R270). -/
def execRst10 (s : State) : Result := call (restartTarget .i2) 16 s

/-- `RET C` (R268). -/
def execRetC (s : State) : Result := retIf .c s

/-- `RETI` (R269). -/
def execReti (s : State) : Result := .next (s.returnFromInterrupt.cycles 16)

/-- `JP C,nn` (R261). -/
def execJpCNn (nn : Word) (s : State) : Result := jumpIf .c nn 12 16 s

/-- `CALL C,nn` (R266). -/
def execCallCNn (nn : Word) (s : State) : Result := callIf .c nn s

/-- `RST 0x18` (R270). -/
def execRst18 (s : State) : Result := call (restartTarget .i3) 16 s

/-- `RST 0x20` (R270). -/
def execRst20 (s : State) : Result := call (restartTarget .i4) 16 s

/-- `JP HL` (R262). -/
def execJpHL (s : State) : Result := jump s.cpu.hl 4 s

/-- `RST 0x28` (R270). -/
def execRst28 (s : State) : Result := call (restartTarget .i5) 16 s

/-- `RST 0x30` (R270). -/
def execRst30 (s : State) : Result := call (restartTarget .i6) 16 s

/-- `RST 0x38` (R270). -/
def execRst38 (s : State) : Result := call (restartTarget .i7) 16 s

end Sys2Proof.Machine
end

