-- ==== Sys2Proof/Machine/System.lean ====
section
/-!
DEFINITION. System instructions (R280 to R286): NOP, HALT, STOP, DI, EI, the
escape byte and the undefined opcodes.
-/

namespace Sys2Proof.Machine

/-- The extended-table entry `op2`, by its fields (R120, R281). -/
def runExtended (op2 : Byte) (s : State) : Result :=
  let y := op2.toNat / 8 % 8
  let x := decodeR8 (op2.toNat % 8)
  match op2.toNat / 64 with
  | 0 => rotateR8 (decodeRotOp y) x s
  | 1 => testBit (decodeIndex3 y) x s
  | 2 => resetBit (decodeIndex3 y) x s
  | _ => raiseBit (decodeIndex3 y) x s

/-! ### The instructions -/

/-- `NOP` (R280). -/
def execNop (s : State) : Result := .next (s.cycles 4)

/-- `STOP` (R283). -/
def execStop (n : Byte) (_s : State) : Result := .refused (.stop n)

/-- `HALT` (R282). -/
def execHalt (s : State) : Result := .next ((s.setHalted true).cycles 4)

/-- `PREFIX CB` (R281). -/
def execPrefixCB (op2 : Byte) (s : State) : Result := runExtended op2 s

/-- `DI` (R284). -/
def execDi (s : State) : Result := .next (((s.setIME false).setImePending false).cycles 4)

/-- `EI` (R285). -/
def execEi (s : State) : Result := .next ((s.setImePending true).cycles 4)

/-- `(undefined)` (R286). -/
def execUndefinedD3 (s : State) : Result := s.raiseUndefinedOpcode 0xD3

/-- `(undefined)` (R286). -/
def execUndefinedDB (s : State) : Result := s.raiseUndefinedOpcode 0xDB

/-- `(undefined)` (R286). -/
def execUndefinedDD (s : State) : Result := s.raiseUndefinedOpcode 0xDD

/-- `(undefined)` (R286). -/
def execUndefinedE3 (s : State) : Result := s.raiseUndefinedOpcode 0xE3

/-- `(undefined)` (R286). -/
def execUndefinedE4 (s : State) : Result := s.raiseUndefinedOpcode 0xE4

/-- `(undefined)` (R286). -/
def execUndefinedEB (s : State) : Result := s.raiseUndefinedOpcode 0xEB

/-- `(undefined)` (R286). -/
def execUndefinedEC (s : State) : Result := s.raiseUndefinedOpcode 0xEC

/-- `(undefined)` (R286). -/
def execUndefinedED (s : State) : Result := s.raiseUndefinedOpcode 0xED

/-- `(undefined)` (R286). -/
def execUndefinedF4 (s : State) : Result := s.raiseUndefinedOpcode 0xF4

/-- `(undefined)` (R286). -/
def execUndefinedFC (s : State) : Result := s.raiseUndefinedOpcode 0xFC

/-- `(undefined)` (R286). -/
def execUndefinedFD (s : State) : Result := s.raiseUndefinedOpcode 0xFD

end Sys2Proof.Machine
end

