-- ==== Sys2Proof/Machine/CpuStep.lean ====
section
/-!
DEFINITION. The step algorithm of the CPU (R303), fetch and decode (R111), one
orchestrator iteration (R97), the operations of the host between steps (R100,
R314, R351), and placing an instruction where the next step fetches it.
-/

namespace Sys2Proof.Machine

/-! ### The step of the CPU (R303) -/

/-- Phase 1: the pending-enable flag is consumed (R29, R303). -/
def State.consumeEnable (s : State) : State :=
  if s.cpu.imePending then (s.setIME true).setImePending false else s

/-- Phase 2: the source to dispatch, if `IME` is set and one is pending (R303,
R306). -/
def State.dispatchable (s : State) : Option Source :=
  if s.cpu.ime then highestSource s.bus.pending else none

/-- Phase 3: halted with nothing pending (R303). -/
def State.idles (s : State) : Bool := s.cpu.halted && s.bus.pending == 0

/-- The instruction at the `PC` and its length: three bytes in address order, the
longest instruction, the addresses wrapping (R24, R111, log 24). -/
def State.fetched (s : State) : Instr × Nat :=
  decodeWindow (s.memRead s.cpu.pc) (s.memRead (s.cpu.pc + 1)) (s.memRead (s.cpu.pc + 2))

/-- The `PC` moved past an instruction of `n` bytes (R24). -/
def State.skip (s : State) (n : Nat) : State := s.setPC (s.cpu.pc + BitVec.ofNat 16 n)

/-- Phase 4: fetch, decode and execute one instruction (R111, R303). -/
def State.fetchExecute (s : State) : Result := exec s.fetched.1 (s.skip s.fetched.2)

/-- Phases 2 to 4, on the state phase 1 leaves. -/
def State.afterEnable (s : State) : Result :=
  match s.dispatchable with
  | some src => .next ((s.dispatch src).cycles Config.intDispatchCycles)
  | none => if s.idles then .next (s.cycles Config.haltIdleCycles) else (s.setHalted false).fetchExecute

/-- `step(bus) -> cycles_elapsed` of the CPU (R303); the cycles are what it adds
to `cycle_count`. -/
def State.cpuStep (s : State) : Result :=
  if s.cpu.hardStopped then .fault .hardStopped else s.consumeEnable.afterEnable

/-! ### One orchestrator iteration (R97) -/

/-- The timer and the PPU advance by the cycles that went by since `before`
(R97, log 1). -/
def State.settle (before after : State) : State :=
  { after with bus := after.bus.advance (after.cpu.cycleCount - before.cpu.cycleCount) }

/-- The CPU step, then the peripherals (R97, D28); a fault or a refusal ends the
run there. -/
def State.iterate (s : State) : Result :=
  match s.cpuStep with
  | .next t => .next (State.settle s t)
  | .fault f => .fault f
  | .refused r => .refused r

/-! ### What the host can do between steps (log 19) -/

/-- `read_memory` (R100). -/
def State.readMemory (s : State) (a : Word) : Byte := s.memRead a

/-- `write_memory` (R100): every side effect of a CPU write. -/
def State.writeMemory (s : State) (a : Word) (v : Byte) : State := s.memWrite a v

/-- `set_button(b, pressed)`: a press requests the joypad interrupt, a release
does not (R314, D26). -/
def State.setButton (s : State) (pressed : Bool) : State :=
  { s with bus := s.bus.request (Source.joypad.maskIf pressed) }

/-- List bytes at rising indexes from `k`. -/
def Memory.load (m : Memory) (k : Nat) (bytes : List Byte) : Memory :=
  match bytes with
  | [] => m
  | v :: rest => Memory.load (Memory.put m k v) (k + 1) rest

/-- `power_on` (R90, R351): a fresh session for a supported controller type, or one of
the two load-time failures, the unsupported type reported first (log 8, log 21). -/
def State.powerOn (t : ControllerType) (image : List Byte) (ramSize : Nat) : Except LoadError State :=
  match t with
  | .unsupported => .error .unsupportedController
  | .supported v =>
    if image.isEmpty then .error .malformedImage
    else .ok (State.fresh v image.length ramSize (Memory.load [] 0 image))

/-! ### Placing an instruction (log 25) -/

/-- Put a byte where a read of `a` finds it: into the ROM image or the RAM chip
behind a cartridge window, into plain storage, or into a register. -/
def Bus.place (b : Bus) (a : Word) (v : Byte) : Bus :=
  match route a with
  | .rom n => { b with cart := { b.cart with rom := Memory.put b.cart.rom (b.cart.romIndex n) v } }
  | .dma => { b with dma := v }
  | .timer .div => { b with timer := { b.timer with div16 := v ++ loByte b.timer.div16 } }
  | _ => b.write a v

/-- The state made ready to fetch: not halted, not hard-stopped, no interrupt
that the next step would dispatch instead; a state that is ready is unchanged. -/
def State.ready (s : State) : State :=
  let s1 := { s with cpu := { s.cpu with hardStopped := false, halted := false } }
  if s1.consumeEnable.dispatchable.isSome then { s1 with bus := { s1.bus with iff := 0 } } else s1

/-- Three bytes placed at the `PC`, lowest address first. -/
def State.placeAtPC (s : State) (b0 b1 b2 : Byte) : State :=
  let pc := s.cpu.pc
  { s with bus := ((s.bus.place pc b0).place (pc + 1) b1).place (pc + 2) b2 }

/-- The instruction whose bits are `w` (numbered as `decodeTableWord` numbers
them) placed where the next step fetches. -/
def State.placeWord (s : State) (nbits w : Nat) : State :=
  let v := w % 2 ^ nbits
  s.ready.placeAtPC (byteOf v) (byteOf (v / 2 ^ 8)) (byteOf (v / 2 ^ 16))

end Sys2Proof.Machine
end

