-- ==== Sys2Proof/Machine/Step.lean ====
section
/-!
DEFINITION. One step of the machine: the CPU step of R303, then the timer and
the PPU (R97).
-/

namespace Sys2Proof.Machine

/-- One step (R97, R303). -/
def step (s : State) : Host.Outcome State Fault Refusal := s.iterate

/-- `s` with the instruction of a table word stored where `step` fetches its next
instruction (log 25). -/
def State.withFetchWord (s : State) (nbits w : Nat) : State := s.placeWord nbits w

end Sys2Proof.Machine
end

