-- ==== Sys2Proof/Safety.lean ====
section
/-!
DEFINITION. The terms claims are stated in: what a run leaves alone, what an
instruction stores, which instructions write flags, and the invariant every
step keeps.
-/

namespace Sys2Proof

/-! ### Codes of the operand fields (R113 to R117) -/

/-- The 3-bit code of a register (R113). -/
def Reg.code (r : Reg) : Nat :=
  match r with
  | .b => 0
  | .c => 1
  | .d => 2
  | .e => 3
  | .h => 4
  | .l => 5
  | .a => 7

/-- The 3-bit code of an operand (R113). -/
def R8.code (x : R8) : Nat :=
  match x with
  | .reg r => r.code
  | .atHL => 6

/-- The 2-bit code of a pair (R114). -/
def RP.code (p : RP) : Nat :=
  match p with
  | .bc => 0
  | .de => 1
  | .hl => 2
  | .sp => 3

/-- The 2-bit code of a stacked pair (R114). -/
def RP2.code (p : RP2) : Nat :=
  match p with
  | .bc => 0
  | .de => 1
  | .hl => 2
  | .af => 3

/-- The 2-bit code of a condition (R115). -/
def Cond.code (c : Cond) : Nat :=
  match c with
  | .nz => 0
  | .z => 1
  | .nc => 2
  | .c => 3

/-- The 3-bit code of an accumulator operation (R117). -/
def AluOp.code (o : AluOp) : Nat :=
  match o with
  | .add => 0
  | .adc => 1
  | .sub => 2
  | .sbc => 3
  | .and => 4
  | .xor => 5
  | .or => 6
  | .cp => 7

/-- The 3-bit code of a rotate or shift (R117). -/
def RotOp.code (o : RotOp) : Nat :=
  match o with
  | .rlc => 0
  | .rrc => 1
  | .rl => 2
  | .rr => 3
  | .sla => 4
  | .sra => 5
  | .swap => 6
  | .srl => 7

namespace Machine

/-! ### Frames -/

/-- The parts of the machine an instruction can change, `cycle_count` aside. -/
inductive Part where
  | reg (r : Reg)
  | flags
  | sp
  | pc
  | ime
  | imePending
  | halted
  | hardStopped
  /-- The bus: every byte any address reads, every device register, the
  cartridge. -/
  | bus
deriving DecidableEq, Repr

/-- The part is the same in both states. -/
def Part.Same (p : Part) (s t : State) : Prop :=
  match p with
  | .reg r => t.cpu.get r = s.cpu.get r
  | .flags => t.cpu.flags = s.cpu.flags
  | .sp => t.cpu.sp = s.cpu.sp
  | .pc => t.cpu.pc = s.cpu.pc
  | .ime => t.cpu.ime = s.cpu.ime
  | .imePending => t.cpu.imePending = s.cpu.imePending
  | .halted => t.cpu.halted = s.cpu.halted
  | .hardStopped => t.cpu.hardStopped = s.cpu.hardStopped
  | .bus => t.bus = s.bus

/-- FRAME: every part but the listed ones is the same. -/
def OnlyChanges (parts : List Part) (s t : State) : Prop := ∀ p, p ∉ parts → p.Same s t

/-- The step's cycles (R31, R362). -/
def Took (n : Nat) (s t : State) : Prop := t.cpu.cycleCount = s.cpu.cycleCount + n

/-- The parts that make up an 8-bit operand. -/
def partsOfR8 (x : R8) : List Part :=
  match x with
  | .reg r => [.reg r]
  | .atHL => [.bus]

/-- The parts that make up a pair. -/
def partsOfRP (p : RP) : List Part :=
  match p with
  | .bc => [.reg .b, .reg .c]
  | .de => [.reg .d, .reg .e]
  | .hl => [.reg .h, .reg .l]
  | .sp => [.sp]

/-- The parts that make up a stacked pair. -/
def partsOfRP2 (p : RP2) : List Part :=
  match p with
  | .bc => [.reg .b, .reg .c]
  | .de => [.reg .d, .reg .e]
  | .hl => [.reg .h, .reg .l]
  | .af => [.reg .a, .flags]

/-- An operand of R113 holds `v` after the instruction and nothing else of its
kind changed: the register is written, or the byte is stored at the `HL` the
instruction found. -/
def OperandBecomes (x : R8) (v : Byte) (s t : State) : Prop :=
  match x with
  | .reg r => t.cpu.get r = v
  | .atHL => t.bus = s.bus.write s.cpu.hl v

/-- COMPLETION: the instruction `i`, whose bytes are `bytes`, answers from `s` a
next state that satisfies `post`, taking `n` cycles and changing only `parts`. The
`PC` of `s` is the address after the instruction (R12). -/
def Completes (i : Instr) (bytes : List Byte) (parts : List Part) (n : Nat) (s : State) (post : State → Prop) :
    Prop :=
  encode i = bytes ∧ ∃ t, exec i s = .next t ∧ OnlyChanges parts s t ∧ Took n s t ∧ post t

/-- The address of the `(n)` and `(C)` forms of R159, in numbers. -/
def highAddress (n : Byte) : Word := BitVec.ofNat 16 (0xFF00 + n.toNat)

/-- The condition holds (R115). -/
def CondIs (cc : Cond) (f : Flags) : Prop :=
  match cc with
  | .nz => f.z = false
  | .z => f.z = true
  | .nc => f.c = false
  | .c => f.c = true

/-! ### Results in integers -/

/-- `A` and the flags after adding `a`, `v` and the carry `c` (R191, R192). -/
def SumIs (a v c : Nat) (t : State) : Prop :=
  t.cpu.a.toNat = (a + v + c) % 256 ∧
    t.cpu.flags =
      { z := decide ((a + v + c) % 256 = 0)
        n := false
        h := decide (a % 16 + v % 16 + c > 0xF)
        c := decide (a + v + c > 0xFF) }

/-- The flags after subtracting `v` and the borrow `c` from `a` (R193, R194,
R198). -/
def BorrowIs (a v c : Nat) (t : State) : Prop :=
  t.cpu.flags =
    { z := decide (((a : Int) - v - c) % 256 = 0)
      n := true
      h := decide (a % 16 < v % 16 + c)
      c := decide (a < v + c) }

/-- `A` and the flags after subtracting (R193, R194). -/
def DifferenceIs (a v c : Nat) (t : State) : Prop :=
  (t.cpu.a.toNat : Int) = ((a : Int) - v - c) % 256 ∧ BorrowIs a v c t

/-- `A` and the flags after a bitwise operation with result `r` (R195 to R197). -/
def LogicIs (r : Byte) (h : Bool) (t : State) : Prop :=
  t.cpu.a = r ∧ t.cpu.flags = { z := decide (r.toNat = 0), n := false, h := h, c := false }

/-- The value a rotate or shift gives, as arithmetic on the byte `v` and the
carry `c` before (R235 to R242). -/
def rotValue (op : RotOp) (v c : Nat) : Nat :=
  match op with
  | .rlc => (2 * v + v / 128) % 256
  | .rrc => v / 2 + 128 * (v % 2)
  | .rl => (2 * v + c) % 256
  | .rr => v / 2 + 128 * c
  | .sla => 2 * v % 256
  | .sra => v / 2 + 128 * (v / 128)
  | .swap => 16 * (v % 16) + v / 16
  | .srl => v / 2

/-- The carry a rotate or shift leaves: the bit moved out; `SWAP` clears it (R235
to R242). -/
def rotCarry (op : RotOp) (v : Nat) : Bool :=
  match op with
  | .rlc => decide (128 ≤ v)
  | .rrc => decide (v % 2 = 1)
  | .rl => decide (128 ≤ v)
  | .rr => decide (v % 2 = 1)
  | .sla => decide (128 ≤ v)
  | .sra => decide (v % 2 = 1)
  | .swap => false
  | .srl => decide (v % 2 = 1)

/-- The packed-BCD byte of a number below 100. -/
def bcd (n : Nat) : Byte := BitVec.ofNat 8 (16 * (n / 10) + n % 10)

/-! ### What an instruction stores -/

/-- The bus after a list of one-byte writes, in order. -/
def writeAll (b : Bus) (ws : List (Word × Byte)) : Bus := ws.foldl (fun b w => b.write w.1 w.2) b

/-- The two writes of `Push16` (R11). -/
def pushStores (s : State) (v : Word) : List (Word × Byte) :=
  [(s.cpu.sp - 1, hiByte v), (s.cpu.sp - 2, loByte v)]

/-- The bus writes of an instruction, in order, from the state it starts in, the
escape row aside (R63). Every instruction not listed stores nothing. -/
def ownStores (i : Instr) (s : State) : List (Word × Byte) :=
  match i with
  | .ldAtBCA => [(s.cpu.bc, s.cpu.a)]
  | .ldAtNnSP nn => [(nn, loByte s.cpu.sp), (nn + 1, hiByte s.cpu.sp)]
  | .ldAtDEA => [(s.cpu.de, s.cpu.a)]
  | .ldAtHLIncA => [(s.cpu.hl, s.cpu.a)]
  | .ldAtHLDecA => [(s.cpu.hl, s.cpu.a)]
  | .incAtHL => [(s.cpu.hl, (s.memRead s.cpu.hl) + 1)]
  | .decAtHL => [(s.cpu.hl, (s.memRead s.cpu.hl) - 1)]
  | .ldAtHLN n => [(s.cpu.hl, n)]
  | .ldAtHLB => [(s.cpu.hl, s.cpu.b)]
  | .ldAtHLC => [(s.cpu.hl, s.cpu.c)]
  | .ldAtHLD => [(s.cpu.hl, s.cpu.d)]
  | .ldAtHLE => [(s.cpu.hl, s.cpu.e)]
  | .ldAtHLH => [(s.cpu.hl, s.cpu.h)]
  | .ldAtHLL => [(s.cpu.hl, s.cpu.l)]
  | .ldAtHLA => [(s.cpu.hl, s.cpu.a)]
  | .callNZNn _ => if condHolds .nz s.cpu.flags then pushStores s s.cpu.pc else []
  | .pushBC => pushStores s (s.cpu.getRP2 .bc)
  | .rst00 => pushStores s s.cpu.pc
  | .callZNn _ => if condHolds .z s.cpu.flags then pushStores s s.cpu.pc else []
  | .callNn _ => pushStores s s.cpu.pc
  | .rst08 => pushStores s s.cpu.pc
  | .callNCNn _ => if condHolds .nc s.cpu.flags then pushStores s s.cpu.pc else []
  | .pushDE => pushStores s (s.cpu.getRP2 .de)
  | .rst10 => pushStores s s.cpu.pc
  | .callCNn _ => if condHolds .c s.cpu.flags then pushStores s s.cpu.pc else []
  | .rst18 => pushStores s s.cpu.pc
  | .ldhAtNA n => [(highPage n, s.cpu.a)]
  | .ldhAtCA => [(highPage s.cpu.c, s.cpu.a)]
  | .pushHL => pushStores s (s.cpu.getRP2 .hl)
  | .rst20 => pushStores s s.cpu.pc
  | .ldAtNnA nn => [(nn, s.cpu.a)]
  | .rst28 => pushStores s s.cpu.pc
  | .pushAF => pushStores s (s.cpu.getRP2 .af)
  | .rst30 => pushStores s s.cpu.pc
  | .rst38 => pushStores s s.cpu.pc
  | .rlcAtHL => [(s.cpu.hl, (rotShift .rlc (s.memRead s.cpu.hl) s.cpu.flags.c).value)]
  | .rrcAtHL => [(s.cpu.hl, (rotShift .rrc (s.memRead s.cpu.hl) s.cpu.flags.c).value)]
  | .rlAtHL => [(s.cpu.hl, (rotShift .rl (s.memRead s.cpu.hl) s.cpu.flags.c).value)]
  | .rrAtHL => [(s.cpu.hl, (rotShift .rr (s.memRead s.cpu.hl) s.cpu.flags.c).value)]
  | .slaAtHL => [(s.cpu.hl, (rotShift .sla (s.memRead s.cpu.hl) s.cpu.flags.c).value)]
  | .sraAtHL => [(s.cpu.hl, (rotShift .sra (s.memRead s.cpu.hl) s.cpu.flags.c).value)]
  | .swapAtHL => [(s.cpu.hl, (rotShift .swap (s.memRead s.cpu.hl) s.cpu.flags.c).value)]
  | .srlAtHL => [(s.cpu.hl, (rotShift .srl (s.memRead s.cpu.hl) s.cpu.flags.c).value)]
  | .res0AtHL => [(s.cpu.hl, clearBit (s.memRead s.cpu.hl) .i0)]
  | .res1AtHL => [(s.cpu.hl, clearBit (s.memRead s.cpu.hl) .i1)]
  | .res2AtHL => [(s.cpu.hl, clearBit (s.memRead s.cpu.hl) .i2)]
  | .res3AtHL => [(s.cpu.hl, clearBit (s.memRead s.cpu.hl) .i3)]
  | .res4AtHL => [(s.cpu.hl, clearBit (s.memRead s.cpu.hl) .i4)]
  | .res5AtHL => [(s.cpu.hl, clearBit (s.memRead s.cpu.hl) .i5)]
  | .res6AtHL => [(s.cpu.hl, clearBit (s.memRead s.cpu.hl) .i6)]
  | .res7AtHL => [(s.cpu.hl, clearBit (s.memRead s.cpu.hl) .i7)]
  | .set0AtHL => [(s.cpu.hl, setBit (s.memRead s.cpu.hl) .i0)]
  | .set1AtHL => [(s.cpu.hl, setBit (s.memRead s.cpu.hl) .i1)]
  | .set2AtHL => [(s.cpu.hl, setBit (s.memRead s.cpu.hl) .i2)]
  | .set3AtHL => [(s.cpu.hl, setBit (s.memRead s.cpu.hl) .i3)]
  | .set4AtHL => [(s.cpu.hl, setBit (s.memRead s.cpu.hl) .i4)]
  | .set5AtHL => [(s.cpu.hl, setBit (s.memRead s.cpu.hl) .i5)]
  | .set6AtHL => [(s.cpu.hl, setBit (s.memRead s.cpu.hl) .i6)]
  | .set7AtHL => [(s.cpu.hl, setBit (s.memRead s.cpu.hl) .i7)]
  | _ => []

/-- The bus writes of any instruction; the escape row's are its extended
entry's (R281). -/
def storesOf (i : Instr) (s : State) : List (Word × Byte) :=
  match i with
  | .prefixCB op2 => ownStores (extRow op2) s
  | other => ownStores other s

/-- An address in plain storage: the windows of R72, R74 to R76, R79, R81. -/
def IsStorage (a : Word) : Prop := ∃ k, route a = .store k

/-- The instructions that write a flag, by their bytes (R27): accumulator
operations, 8-bit `INC` and `DEC`, the column of the accumulator rotates, `DAA`,
`CPL`, `SCF`, `CCF`, `ADD HL,rr`, `ADD SP,e`, `LD HL,SP+e`, `POP AF`, and every
rotate, shift, `SWAP` and `BIT` of the extended table. -/
def writesFlags (i : Instr) : Bool :=
  match i with
  | .prefixCB op2 => decide (op2.toNat < 0x80)
  | i =>
    match encode i with
    | op :: rest =>
      let x := op.toNat / 64
      let z := op.toNat % 8
      if op = 0xCB then rest.all fun op2 => decide (op2.toNat < 0x80)
      else (x == 2) || (x == 3 && z == 6) || (x == 0 && (z == 4 || z == 5 || z == 7)) ||
        (x == 0 && z == 1 && op.toNat / 8 % 2 == 1) || op == 0xE8 || op == 0xF8 || op == 0xF1
    | [] => false

/-! ### The invariant -/

/-- The controller's registers stay in the range the substitution of bank 1 for
bank 0 leaves them (R87, R88). -/
def Controller.Inv (c : Controller) : Prop :=
  match c with
  | .fixed => True
  | .simple m => m.low5 ≠ 0
  | .rtc m => m.romBank ≠ 0
  | .extended _ => True

/-- The cartridge: an image of at least one byte, ROM and RAM in canonical form
and inside their chips (R85), the controller's registers in range. -/
structure Cartridge.Inv (c : Cartridge) : Prop where
  romSize : 0 < c.romSize
  romWf : Memory.wf c.rom = true
  romWithin : Memory.within c.rom (fun k => decide (k < c.romSize)) = true
  ramWf : Memory.wf c.ram = true
  ramWithin : Memory.within c.ram (fun k => decide (k < c.ramSize)) = true
  controller : c.controller.Inv

/-- The PPU's position stays inside a frame (R334). -/
structure Ppu.Inv (p : Ppu) : Prop where
  line : p.line < Config.linesPerFrame
  dot : p.dot < Config.dotsPerLine

/-- Everything behind the bus: plain storage in canonical form, listing only
addresses of plain storage. -/
structure Bus.Inv (b : Bus) : Prop where
  memWf : Memory.wf b.mem = true
  memWithin : Memory.within b.mem isStoreKey = true
  cart : b.cart.Inv
  ppu : b.ppu.Inv

/-- The invariant of the machine: the bus's, and no hard stop (a hard-stopped CPU
has no next state, R303 phase 0). -/
structure State.Inv (s : State) : Prop where
  bus : s.bus.Inv
  running : s.cpu.hardStopped = false

end Machine

end Sys2Proof
end

