-- ==== Sys2Proof/Certificates/Slice0/Obligations.lean ====
section
/-!
DEFINITION. The statements for the provers, from the numbered rules of spec/. A
`Completes` clause says that `exec` answers a next state, with its frame and its
cycles; the `PC` of the state `exec` starts from is the address after the
instruction (R12), and `StepRunsDecodedInstruction` says how a step reaches it.
-/

open Sys2Proof
open Sys2Proof.Machine

/-! ### Encoding -/

/-- R112, R113 to R120: words written out from the field layout, at least one per
family, decode to the instruction they stand for, the operand bytes little-endian
and the bytes after the instruction left over. -/
def Obligations.SampleWordsDecode : Prop :=
  decode [0b01111000] = .ok (.ldAB, []) ∧
  decode [0b00111110, 0x01] = .ok (.ldAN 0x01, []) ∧
  decode [0b01000110] = .ok (.ldBAtHL, []) ∧
  decode [0b11101010, 0x00, 0x20] = .ok (.ldAtNnA 0x2000, []) ∧
  decode [0b00100001, 0x00, 0xC0] = .ok (.ldHLNn 0xC000, []) ∧
  decode [0b11110101] = .ok (.pushAF, []) ∧
  decode [0b10001011] = .ok (.adcAE, []) ∧
  decode [0b11111110, 0x2F] = .ok (.cpN 0x2F, []) ∧
  decode [0b00111001] = .ok (.addHLSP, []) ∧
  decode [0b00011111] = .ok (.rra, []) ∧
  decode [0xCB, 0b00110111] = .ok (.swapA, []) ∧
  decode [0xCB, 0b01100101] = .ok (.bit4L, []) ∧
  decode [0xCB, 0b10111111] = .ok (.res7A, []) ∧
  decode [0xCB, 0b11011110] = .ok (.set3AtHL, []) ∧
  decode [0b11011100, 0x00, 0x02] = .ok (.callCNn 0x0200, []) ∧
  decode [0b00100000, 0xFC] = .ok (.jrNZE 0xFC, []) ∧
  decode [0b11101111] = .ok (.rst28, []) ∧
  decode [0x76, 0x00] = .ok (.halt, [0x00]) ∧
  decode [0b11011101] = .ok (.undefinedDD, [])

/-- Decoding the bytes of a well-formed instruction gives it back, whatever bytes
follow: no bit of any encoding is dropped (R112, R116, R120, R123). -/
def Obligations.DecodeEncodeRoundTrip : Prop :=
  ∀ (i : Instr) (rest : List Byte), i.WellFormed → decode (encode i ++ rest) = .ok (i, rest)

/-- What the decoder reads is exactly the bytes its encoder writes, so no two byte
sequences give one instruction, and every decoded instruction is well-formed
(R116, R120: every value appears exactly once). -/
def Obligations.DecodedBytesAreTheEncoding : Prop :=
  ∀ (bytes : List Byte) (i : Instr) (rest : List Byte), decode bytes = .ok (i, rest) →
    encode i ++ rest = bytes ∧ i.WellFormed

/-- R110: any three bytes decode; the instruction is 1, 2 or 3 bytes long, the first
byte alone decides how many; after the escape byte 0xCB the instruction is 2 bytes
and the second byte alone decides which extended-table entry it is. -/
def Obligations.FirstByteDecidesLength : Prop :=
  ∀ b0 b1 b2 : Byte, ∃ i n,
    decode [b0, b1, b2] = .ok (i, [b0, b1, b2].drop n) ∧ 1 ≤ n ∧ n ≤ 3 ∧
    (∀ c1 c2 : Byte, ∃ j, decode [b0, c1, c2] = .ok (j, [b0, c1, c2].drop n)) ∧
    (b0 = 0xCB → n = 2 ∧ ∀ c2 : Byte, decode [b0, b1, c2] = .ok (i, [c2]))

/-! ### 8-bit loads -/

/-- R140 (its 49 forms), R141, R142: a register loaded from a register, from `n`, or
from the byte at the old `HL`, whatever the address; and nothing else. -/
def Obligations.LoadRegister : Prop :=
  ∀ (d r : Reg) (n : Byte) (s : State),
    (Completes (rowLd (.reg d) (.reg r)) [BitVec.ofNat 8 (0x40 + 8 * d.code + r.code)] [.reg d] 4 s
      fun t => t.cpu.get d = s.cpu.get r) ∧
    (Completes (rowLdN (.reg d) n) [BitVec.ofNat 8 (0x06 + 8 * d.code), n] [.reg d] 8 s
      fun t => t.cpu.get d = n) ∧
    (Completes (rowLd (.reg d) .atHL) [BitVec.ofNat 8 (0x46 + 8 * d.code)] [.reg d] 8 s
      fun t => t.cpu.get d = s.bus.read s.cpu.hl)

/-- R143, R144: the register or `n` written at `HL` by one bus write, and nothing else
changed. -/
def Obligations.StoreRegisterOrImmediate : Prop :=
  ∀ (r : Reg) (n : Byte) (s : State),
    (Completes (rowLd .atHL (.reg r)) [BitVec.ofNat 8 (0x70 + r.code)] [.bus] 8 s
      fun t => t.bus = s.bus.write s.cpu.hl (s.cpu.get r)) ∧
    (Completes (.ldAtHLN n) [0x36, n] [.bus] 12 s fun t => t.bus = s.bus.write s.cpu.hl n)

/-- R145, R146, R149, R151, R154: `A` loaded from `(BC)`, `(DE)`, `(nn)` (low byte
first), `(0xFF00 + n)` and `(0xFF00 + C)`. -/
def Obligations.LoadAccumulator : Prop :=
  ∀ (n lo hi : Byte) (s : State),
    (Completes .ldAAtBC [0x0A] [.reg .a] 8 s fun t => t.cpu.a = s.bus.read (s.cpu.b ++ s.cpu.c)) ∧
    (Completes .ldAAtDE [0x1A] [.reg .a] 8 s fun t => t.cpu.a = s.bus.read (s.cpu.d ++ s.cpu.e)) ∧
    (Completes (.ldAAtNn (hi ++ lo)) [0xFA, lo, hi] [.reg .a] 16 s fun t => t.cpu.a = s.bus.read (hi ++ lo)) ∧
    (Completes (.ldhAAtN n) [0xF0, n] [.reg .a] 12 s fun t => t.cpu.a = s.bus.read (highAddress n)) ∧
    (Completes .ldhAAtC [0xF2] [.reg .a] 8 s fun t => t.cpu.a = s.bus.read (highAddress s.cpu.c))

/-- R147, R148, R150, R152, R153: `A` stored at `(BC)`, `(DE)`, `(nn)`,
`(0xFF00 + n)` and `(0xFF00 + C)`. -/
def Obligations.StoreAccumulator : Prop :=
  ∀ (n lo hi : Byte) (s : State),
    (Completes .ldAtBCA [0x02] [.bus] 8 s fun t => t.bus = s.bus.write (s.cpu.b ++ s.cpu.c) s.cpu.a) ∧
    (Completes .ldAtDEA [0x12] [.bus] 8 s fun t => t.bus = s.bus.write (s.cpu.d ++ s.cpu.e) s.cpu.a) ∧
    (Completes (.ldAtNnA (hi ++ lo)) [0xEA, lo, hi] [.bus] 16 s fun t => t.bus = s.bus.write (hi ++ lo) s.cpu.a) ∧
    (Completes (.ldhAtNA n) [0xE0, n] [.bus] 12 s fun t => t.bus = s.bus.write (highAddress n) s.cpu.a) ∧
    (Completes .ldhAtCA [0xE2] [.bus] 8 s fun t => t.bus = s.bus.write (highAddress s.cpu.c) s.cpu.a)

/-- R155 to R158: the access at the old `HL`, then `HL` one more or one less modulo
2^16. -/
def Obligations.LoadAndStoreMovingHL : Prop :=
  ∀ s : State,
    (Completes .ldAtHLIncA [0x22] [.reg .h, .reg .l, .bus] 8 s fun t =>
      t.bus = s.bus.write s.cpu.hl s.cpu.a ∧ t.cpu.hl.toNat = (s.cpu.hl.toNat + 1) % 0x10000) ∧
    (Completes .ldAAtHLInc [0x2A] [.reg .a, .reg .h, .reg .l] 8 s fun t =>
      t.cpu.a = s.bus.read s.cpu.hl ∧ t.cpu.hl.toNat = (s.cpu.hl.toNat + 1) % 0x10000) ∧
    (Completes .ldAtHLDecA [0x32] [.reg .h, .reg .l, .bus] 8 s fun t =>
      t.bus = s.bus.write s.cpu.hl s.cpu.a ∧ t.cpu.hl.toNat = (s.cpu.hl.toNat + 0xFFFF) % 0x10000) ∧
    (Completes .ldAAtHLDec [0x3A] [.reg .a, .reg .h, .reg .l] 8 s fun t =>
      t.cpu.a = s.bus.read s.cpu.hl ∧ t.cpu.hl.toNat = (s.cpu.hl.toNat + 0xFFFF) % 0x10000)

/-! ### 16-bit loads and the stack -/

/-- R170, R172: `rp[p] <- nn`, low byte first in memory, and `SP <- HL`. -/
def Obligations.LoadPair : Prop :=
  ∀ (p : RP) (lo hi : Byte) (s : State),
    (Completes (rowLdRP p (hi ++ lo)) [BitVec.ofNat 8 (0x01 + 16 * p.code), lo, hi] (partsOfRP p) 12 s
      fun t => t.cpu.getRP p = hi ++ lo) ∧
    (Completes .ldSPHL [0xF9] [.sp] 8 s fun t => t.cpu.sp = s.cpu.h ++ s.cpu.l)

/-- R171: the low byte of `SP` at `nn`, then its high byte at `nn + 1` modulo 2^16. -/
def Obligations.StoreStackPointer : Prop :=
  ∀ (lo hi : Byte) (s : State),
    Completes (.ldAtNnSP (hi ++ lo)) [0x08, lo, hi] [.bus] 20 s fun t =>
      t.bus = (s.bus.write (hi ++ lo) (s.cpu.sp.extractLsb' 0 8)).write
        (BitVec.ofNat 16 ((hi ++ lo : Word).toNat + 1)) (s.cpu.sp.extractLsb' 8 8)

/-- R173, R223: `SP` plus the signed displacement, into `HL` or into `SP`, with the
carries of the unsigned sum of the low byte of `SP` and the byte `e`. -/
def Obligations.StackPointerPlusDisplacement : Prop :=
  ∀ (e : Byte) (s : State),
    let sum : Word := BitVec.ofInt 16 (s.cpu.sp.toNat + e.toInt)
    let flags : Flags :=
      { z := false
        n := false
        h := decide (s.cpu.sp.toNat % 16 + e.toNat % 16 > 0xF)
        c := decide (s.cpu.sp.toNat % 256 + e.toNat > 0xFF) }
    (Completes (.ldHLSPE e) [0xF8, e] [.reg .h, .reg .l, .flags] 12 s fun t =>
      t.cpu.hl = sum ∧ t.cpu.flags = flags) ∧
    (Completes (.addSPE e) [0xE8, e] [.sp, .flags] 16 s fun t => t.cpu.sp = sum ∧ t.cpu.flags = flags)

/-- R175: the high half at `SP - 1`, then the low half at `SP - 2`, modulo 2^16; for
`AF` the low half is the packed flags, bits 3:0 zero. -/
def Obligations.PushPair : Prop :=
  ∀ (p : RP2) (s : State),
    let f := s.cpu.flags
    let packed : Byte :=
      BitVec.ofBool f.z ++ BitVec.ofBool f.n ++ BitVec.ofBool f.h ++ BitVec.ofBool f.c ++ (0 : BitVec 4)
    let halves : Byte × Byte :=
      match p with
      | .bc => (s.cpu.b, s.cpu.c)
      | .de => (s.cpu.d, s.cpu.e)
      | .hl => (s.cpu.h, s.cpu.l)
      | .af => (s.cpu.a, packed)
    Completes (rowPush p) [BitVec.ofNat 8 (0xC5 + 16 * p.code)] [.sp, .bus] 16 s fun t =>
      t.cpu.sp = s.cpu.sp - 2 ∧
        t.bus = (s.bus.write (s.cpu.sp - 1) halves.1).write (s.cpu.sp - 2) halves.2

/-- R176: the low half from `SP`, the high half from `SP + 1`, `SP` two higher; for
`AF` the four flags are bits 7 to 4 of the low byte. -/
def Obligations.PopPair : Prop :=
  ∀ (p : RP2) (s : State),
    let lo := s.bus.read s.cpu.sp
    let hi := s.bus.read (s.cpu.sp + 1)
    Completes (rowPop p) [BitVec.ofNat 8 (0xC1 + 16 * p.code)] (.sp :: partsOfRP2 p) 12 s fun t =>
      t.cpu.sp = s.cpu.sp + 2 ∧
        match p with
        | .bc => t.cpu.b = hi ∧ t.cpu.c = lo
        | .de => t.cpu.d = hi ∧ t.cpu.e = lo
        | .hl => t.cpu.h = hi ∧ t.cpu.l = lo
        | .af =>
          t.cpu.a = hi ∧
            t.cpu.flags =
              { z := lo.getLsbD 7, n := lo.getLsbD 6, h := lo.getLsbD 5, c := lo.getLsbD 4 }

/-- A `PUSH` and a `POP` of the same pair give the pair back and leave `SP` where it
was, if the two bytes of the stack are plain storage that are not one byte (R11,
R26, R175, R176). -/
def Obligations.PushThenPopRestores : Prop :=
  ∀ (p : RP2) (s : State), IsStorage (s.cpu.sp - 1) → IsStorage (s.cpu.sp - 2) →
    route (s.cpu.sp - 1) ≠ route (s.cpu.sp - 2) →
    ∃ t u, exec (rowPush p) s = .next t ∧ exec (rowPop p) t = .next u ∧
      u.cpu.getRP2 p = s.cpu.getRP2 p ∧ u.cpu.flags = s.cpu.flags ∧ u.cpu.sp = s.cpu.sp

/-! ### 8-bit arithmetic and logic -/

/-- R191, R192, every source form of R190: the exact sum with the carry-in for
`ADC`, its four flags from integer arithmetic. -/
def Obligations.AddAndAddWithCarry : Prop :=
  ∀ (x : R8) (n : Byte) (s : State),
    let a := s.cpu.a.toNat
    let v := (s.readR8 x).toNat
    let c := s.cpu.flags.c.toNat
    let cost := if x = .atHL then 8 else 4
    (Completes (rowAlu .add x) [BitVec.ofNat 8 (0x80 + x.code)] [.reg .a, .flags] cost s (SumIs a v 0)) ∧
    (Completes (rowAlu .adc x) [BitVec.ofNat 8 (0x88 + x.code)] [.reg .a, .flags] cost s (SumIs a v c)) ∧
    (Completes (rowAluN .add n) [0xC6, n] [.reg .a, .flags] 8 s (SumIs a n.toNat 0)) ∧
    (Completes (rowAluN .adc n) [0xCE, n] [.reg .a, .flags] 8 s (SumIs a n.toNat c))

/-- R193, R194, R198, every source form: the exact difference with the borrow-in
for `SBC`; `CP` writes the flags of `SUB` and not `A`. -/
def Obligations.SubtractAndCompare : Prop :=
  ∀ (x : R8) (n : Byte) (s : State),
    let a := s.cpu.a.toNat
    let v := (s.readR8 x).toNat
    let c := s.cpu.flags.c.toNat
    let cost := if x = .atHL then 8 else 4
    (Completes (rowAlu .sub x) [BitVec.ofNat 8 (0x90 + x.code)] [.reg .a, .flags] cost s (DifferenceIs a v 0)) ∧
    (Completes (rowAlu .sbc x) [BitVec.ofNat 8 (0x98 + x.code)] [.reg .a, .flags] cost s (DifferenceIs a v c)) ∧
    (Completes (rowAlu .cp x) [BitVec.ofNat 8 (0xB8 + x.code)] [.flags] cost s (BorrowIs a v 0)) ∧
    (Completes (rowAluN .sub n) [0xD6, n] [.reg .a, .flags] 8 s (DifferenceIs a n.toNat 0)) ∧
    (Completes (rowAluN .sbc n) [0xDE, n] [.reg .a, .flags] 8 s (DifferenceIs a n.toNat c)) ∧
    (Completes (rowAluN .cp n) [0xFE, n] [.flags] 8 s (BorrowIs a n.toNat 0))

/-- R195, R196, R197, every source form: `A` the bitwise and, exclusive or, or; Z of the
result, N 0, H 1 for `AND` and 0 otherwise, C 0; nothing else changed. -/
def Obligations.BitwiseLogic : Prop :=
  ∀ (x : R8) (n : Byte) (s : State),
    let a := s.cpu.a
    let v := s.readR8 x
    let cost := if x = .atHL then 8 else 4
    (Completes (rowAlu .and x) [BitVec.ofNat 8 (0xA0 + x.code)] [.reg .a, .flags] cost s (LogicIs (a &&& v) true)) ∧
    (Completes (rowAlu .xor x) [BitVec.ofNat 8 (0xA8 + x.code)] [.reg .a, .flags] cost s (LogicIs (a ^^^ v) false)) ∧
    (Completes (rowAlu .or x) [BitVec.ofNat 8 (0xB0 + x.code)] [.reg .a, .flags] cost s (LogicIs (a ||| v) false)) ∧
    (Completes (rowAluN .and n) [0xE6, n] [.reg .a, .flags] 8 s (LogicIs (a &&& n) true)) ∧
    (Completes (rowAluN .xor n) [0xEE, n] [.reg .a, .flags] 8 s (LogicIs (a ^^^ n) false)) ∧
    (Completes (rowAluN .or n) [0xF6, n] [.reg .a, .flags] 8 s (LogicIs (a ||| n) false))

/-- R199 to R202: one more or one less modulo 256, in a register or in the byte at
`HL`; C is kept. -/
def Obligations.IncrementAndDecrementByte : Prop :=
  ∀ (x : R8) (s : State),
    let v := (s.readR8 x).toNat
    let cost := if x = .atHL then 12 else 4
    (Completes (rowInc x) [BitVec.ofNat 8 (0x04 + 8 * x.code)] (.flags :: partsOfR8 x) cost s fun t =>
      OperandBecomes x (BitVec.ofNat 8 (v + 1)) s t ∧
        t.cpu.flags =
          { z := decide (v = 0xFF), n := false, h := decide (v % 16 = 0xF), c := s.cpu.flags.c }) ∧
    (Completes (rowDec x) [BitVec.ofNat 8 (0x05 + 8 * x.code)] (.flags :: partsOfR8 x) cost s fun t =>
      OperandBecomes x (BitVec.ofNat 8 (v + 0xFF)) s t ∧
        t.cpu.flags =
          { z := decide (v = 0x01), n := true, h := decide (v % 16 = 0x0), c := s.cpu.flags.c })

/-- R203: the pseudocode of `DAA`, both tests of the add branch on the original
`A`. -/
def Obligations.DecimalAdjust : Prop :=
  ∀ s : State,
    let a := s.cpu.a.toNat
    let f := s.cpu.flags
    let low := if f.n then f.h else f.h || decide (a % 16 > 9)
    let high := if f.n then f.c else f.c || decide (a > 0x99)
    let adj := (if low then 0x06 else 0) + (if high then 0x60 else 0)
    let result : Nat := if f.n then (a + 256 - adj) % 256 else (a + adj) % 256
    Completes .daa [0x27] [.reg .a, .flags] 4 s fun t =>
      t.cpu.a.toNat = result ∧ t.cpu.flags = { z := decide (result = 0), n := f.n, h := false, c := high }

/-- What `DAA` is for (R203): after `ADD A,n` or `SUB n` of packed-BCD bytes, `DAA`
leaves the packed-BCD sum or difference modulo 100, and in C whether it left
0..99. -/
def Obligations.DecimalAdjustMakesBcd : Prop :=
  ∀ (x y : Nat) (s : State), x < 100 → y < 100 → s.cpu.a = bcd x →
    (∃ t u, exec (rowAluN .add (bcd y)) s = .next t ∧ exec .daa t = .next u ∧
      u.cpu.a = bcd ((x + y) % 100) ∧ u.cpu.flags.c = decide (100 ≤ x + y)) ∧
    (∃ t u, exec (rowAluN .sub (bcd y)) s = .next t ∧ exec .daa t = .next u ∧
      u.cpu.a = bcd ((x + 100 - y) % 100) ∧ u.cpu.flags.c = decide (x < y))

/-- R204, R205, R206: `CPL` complements `A` and sets N and H; `SCF` sets C, `CCF`
inverts it, both clearing N and H; Z is kept, and C by `CPL`. -/
def Obligations.ComplementAndCarryFlag : Prop :=
  ∀ s : State,
    let f := s.cpu.flags
    (Completes .cpl [0x2F] [.reg .a, .flags] 4 s fun t =>
      t.cpu.a.toNat = 255 - s.cpu.a.toNat ∧ t.cpu.flags = { z := f.z, n := true, h := true, c := f.c }) ∧
    (Completes .scf [0x37] [.flags] 4 s fun t =>
      t.cpu.flags = { z := f.z, n := false, h := false, c := true }) ∧
    (Completes .ccf [0x3F] [.flags] 4 s fun t =>
      t.cpu.flags = { z := f.z, n := false, h := false, c := !f.c })

/-! ### 16-bit arithmetic -/

/-- R220: the sum modulo 2^16, carries out of bits 11 and 15, Z kept. -/
def Obligations.AddToHL : Prop :=
  ∀ (p : RP) (s : State),
    let x := s.cpu.hl.toNat
    let y := (s.cpu.getRP p).toNat
    Completes (rowAddHL p) [BitVec.ofNat 8 (0x09 + 16 * p.code)] [.reg .h, .reg .l, .flags] 8 s fun t =>
      t.cpu.hl.toNat = (x + y) % 0x10000 ∧
        t.cpu.flags =
          { z := s.cpu.flags.z
            n := false
            h := decide (x % 0x1000 + y % 0x1000 > 0xFFF)
            c := decide (x + y > 0xFFFF) }

/-- R221, R222: one more or one less modulo 2^16, no flag changed. -/
def Obligations.IncrementAndDecrementPair : Prop :=
  ∀ (p : RP) (s : State),
    (Completes (rowIncRP p) [BitVec.ofNat 8 (0x03 + 16 * p.code)] (partsOfRP p) 8 s fun t =>
      (t.cpu.getRP p).toNat = ((s.cpu.getRP p).toNat + 1) % 0x10000) ∧
    (Completes (rowDecRP p) [BitVec.ofNat 8 (0x0B + 16 * p.code)] (partsOfRP p) 8 s fun t =>
      (t.cpu.getRP p).toNat = ((s.cpu.getRP p).toNat + 0xFFFF) % 0x10000)

/-! ### Rotates, shifts and bits -/

/-- R230 to R233: the accumulator rotates: `A` rotated one place, circularly or through
the carry, the bit moved out in C; Z, N and H 0, Z whatever the result. -/
def Obligations.AccumulatorRotates : Prop :=
  ∀ s : State,
    let a := s.cpu.a.toNat
    let c := s.cpu.flags.c.toNat
    let post (op : RotOp) (t : State) : Prop :=
      t.cpu.a.toNat = rotValue op a c ∧ t.cpu.flags = { z := false, n := false, h := false, c := rotCarry op a }
    (Completes .rlca [0x07] [.reg .a, .flags] 4 s (post .rlc)) ∧
    (Completes .rrca [0x0F] [.reg .a, .flags] 4 s (post .rrc)) ∧
    (Completes .rla [0x17] [.reg .a, .flags] 4 s (post .rl)) ∧
    (Completes .rra [0x1F] [.reg .a, .flags] 4 s (post .rr))

/-- R234 to R242: the eight rotates and shifts of the extended table, on a register
or on the byte at `HL` (one read, one write). -/
def Obligations.RotatesAndShifts : Prop :=
  ∀ (op : RotOp) (x : R8) (s : State),
    let v := (s.readR8 x).toNat
    let r := rotValue op v s.cpu.flags.c.toNat
    Completes (rowRot op x) [0xCB, BitVec.ofNat 8 (8 * op.code + x.code)] (.flags :: partsOfR8 x)
      (if x = .atHL then 16 else 8) s fun t =>
        OperandBecomes x (BitVec.ofNat 8 r) s t ∧
          t.cpu.flags = { z := decide (r = 0), n := false, h := false, c := rotCarry op v }

/-- R243, R244, R245: `BIT` sets Z from the tested bit, N 0, H 1, keeps C and writes
nothing; `RES` and `SET` clear and set one bit, keep the other seven and write no
flag. -/
def Obligations.TestResetAndSetBit : Prop :=
  ∀ (b : Index3) (x : R8) (s : State),
    let byte (block : Nat) : Byte := BitVec.ofNat 8 (block + 8 * b.toNat + x.code)
    (Completes (rowBit b x) [0xCB, byte 0x40] [.flags] (if x = .atHL then 12 else 8) s fun t =>
      t.cpu.flags =
        { z := decide ((s.readR8 x).toNat / 2 ^ b.toNat % 2 = 0), n := false, h := true, c := s.cpu.flags.c }) ∧
    (Completes (rowRes b x) [0xCB, byte 0x80] (partsOfR8 x) (if x = .atHL then 16 else 8) s fun t =>
      ∃ w : Byte, OperandBecomes x w s t ∧
        ∀ j, w.getLsbD j = (decide (j ≠ b.toNat) && (s.readR8 x).getLsbD j)) ∧
    (Completes (rowSet b x) [0xCB, byte 0xC0] (partsOfR8 x) (if x = .atHL then 16 else 8) s fun t =>
      ∃ w : Byte, OperandBecomes x w s t ∧
        ∀ j, w.getLsbD j = (decide (j = b.toNat) || (s.readR8 x).getLsbD j))

/-! ### Control transfer -/

/-- R260 to R264: jumps to `nn`, to `HL`, and relative to the address after the
instruction; a conditional form is taken if the condition of R115 holds, and if not
nothing changes but the cycles. -/
def Obligations.Jumps : Prop :=
  ∀ (cc : Cond) (lo hi e : Byte) (s : State),
    let absolute (t : State) : Prop := t.cpu.pc = hi ++ lo
    let relative (t : State) : Prop := t.cpu.pc = BitVec.ofInt 16 (s.cpu.pc.toNat + e.toInt)
    let jp : List Byte := [BitVec.ofNat 8 (0xC2 + 8 * cc.code), lo, hi]
    let jr : List Byte := [BitVec.ofNat 8 (0x20 + 8 * cc.code), e]
    (Completes (.jpNn (hi ++ lo)) [0xC3, lo, hi] [.pc] 16 s absolute) ∧
    (Completes .jpHL [0xE9] [.pc] 4 s fun t => t.cpu.pc = s.cpu.h ++ s.cpu.l) ∧
    (Completes (.jrE e) [0x18, e] [.pc] 12 s relative) ∧
    (CondIs cc s.cpu.flags →
      Completes (rowJp cc (hi ++ lo)) jp [.pc] 16 s absolute ∧ Completes (rowJr cc e) jr [.pc] 12 s relative) ∧
    (¬ CondIs cc s.cpu.flags →
      (Completes (rowJp cc (hi ++ lo)) jp [] 12 s fun _ => True) ∧
      (Completes (rowJr cc e) jr [] 8 s fun _ => True))

/-- R265, R266, R270: the address after the instruction pushed, high byte at
`SP - 1`, low byte at `SP - 2`; `RST` goes to 8 times its index; a conditional call
not taken touches neither the stack nor `SP`. -/
def Obligations.CallsAndRestarts : Prop :=
  ∀ (cc : Cond) (lo hi : Byte) (y : Index3) (s : State),
    let pushed (t : State) : Prop :=
      t.cpu.sp = s.cpu.sp - 2 ∧
        t.bus = (s.bus.write (s.cpu.sp - 1) (s.cpu.pc.extractLsb' 8 8)).write (s.cpu.sp - 2)
          (s.cpu.pc.extractLsb' 0 8)
    let bytes : List Byte := [BitVec.ofNat 8 (0xC4 + 8 * cc.code), lo, hi]
    (Completes (.callNn (hi ++ lo)) [0xCD, lo, hi] [.pc, .sp, .bus] 24 s
      fun t => pushed t ∧ t.cpu.pc = hi ++ lo) ∧
    (Completes (rowRst y) [BitVec.ofNat 8 (0xC7 + 8 * y.toNat)] [.pc, .sp, .bus] 16 s
      fun t => pushed t ∧ t.cpu.pc.toNat = 8 * y.toNat) ∧
    (CondIs cc s.cpu.flags →
      Completes (rowCall cc (hi ++ lo)) bytes [.pc, .sp, .bus] 24 s fun t => pushed t ∧ t.cpu.pc = hi ++ lo) ∧
    (¬ CondIs cc s.cpu.flags → Completes (rowCall cc (hi ++ lo)) bytes [] 12 s fun _ => True)

/-- R267, R268: the `PC` from the stack, low byte at `SP`; not taken, nothing is
read and nothing changes but the cycles. -/
def Obligations.Returns : Prop :=
  ∀ (cc : Cond) (s : State),
    let popped (t : State) : Prop :=
      t.cpu.pc = s.bus.read (s.cpu.sp + 1) ++ s.bus.read s.cpu.sp ∧ t.cpu.sp = s.cpu.sp + 2
    (Completes .ret [0xC9] [.pc, .sp] 16 s popped) ∧
    (CondIs cc s.cpu.flags →
      Completes (rowRet cc) [BitVec.ofNat 8 (0xC0 + 8 * cc.code)] [.pc, .sp] 20 s popped) ∧
    (¬ CondIs cc s.cpu.flags →
      Completes (rowRet cc) [BitVec.ofNat 8 (0xC0 + 8 * cc.code)] [] 8 s fun _ => True)

/-- R269: `PC <- Pop16(); IME <- 1`, and nothing else restored; at once: whatever the
peripherals then make of the bus, a source pending in it is dispatched by the very
next step, before any instruction at the return address. -/
def Obligations.ReturnFromInterrupt : Prop :=
  ∀ s : State,
    Completes .reti [0xD9] [.pc, .sp, .ime] 16 s fun t =>
      t.cpu.pc = s.bus.read (s.cpu.sp + 1) ++ s.bus.read s.cpu.sp ∧ t.cpu.sp = s.cpu.sp + 2 ∧ t.cpu.ime = true ∧
        (s.cpu.hardStopped = false → ∀ (b : Bus) (src : Source), (b.ie &&& b.iff).getLsbD src.bit = true →
          (∀ j, j < src.bit → (b.ie &&& b.iff).getLsbD j = false) →
          ∃ u, step { t with bus := b } = .next u ∧ u.cpu.pc.toNat = 0x0040 + 8 * src.bit ∧
            u.cpu.sp = s.cpu.sp ∧ u.cpu.ime = false ∧ Took 20 t u)

/-! ### System instructions -/

/-- R280, R284, and the operation of `HALT` (R282) and `EI` (R285). -/
def Obligations.SystemInstructions : Prop :=
  ∀ s : State,
    (Completes .nop [0x00] [] 4 s fun _ => True) ∧
    (Completes .di [0xF3] [.ime, .imePending] 4 s fun t => t.cpu.ime = false ∧ t.cpu.imePending = false) ∧
    (Completes .halt [0x76] [.halted] 4 s fun t => t.cpu.halted = true) ∧
    (Completes .ei [0xFB] [.imePending] 4 s fun t => t.cpu.imePending = true)

/-- R281: the row of the escape byte runs as the extended-table entry of its second
byte and answers a next state for every second byte; the decoder gives the entry
itself, two bytes long. -/
def Obligations.EscapeRunsExtendedEntry : Prop :=
  ∀ (op2 : Byte) (s : State),
    exec (.prefixCB op2) s = exec (extRow op2) s ∧ (∃ t, exec (.prefixCB op2) s = .next t) ∧
      ∀ rest : List Byte, decode (0xCB :: op2 :: rest) = .ok (extRow op2, rest)

/-- R283: `STOP` is refused, and is not a fault; its two bytes are one instruction. -/
def Obligations.StopIsRefused : Prop :=
  ∀ (n : Byte) (s : State),
    exec (.stop n) s = .refused (.stop n) ∧ ∀ rest : List Byte, decode (0x10 :: n :: rest) = .ok (.stop n, rest)

/-- R32, R286, R300: exactly the eleven undefined bytes, fetched as an opcode, stop the
machine with the opcode and the address it was fetched from; the state left has
`hard_stopped` set, `PC` one past the byte, nothing else changed, and no step. -/
def Obligations.UndefinedOpcodesHardStop : Prop :=
  ∀ (op : Byte) (s : State),
    (op ∈ ([0xD3, 0xDB, 0xDD, 0xE3, 0xE4, 0xEB, 0xEC, 0xED, 0xF4, 0xFC, 0xFD] : List Byte) →
      ∃ i final, encode i = [op] ∧ (∀ rest, decode (op :: rest) = .ok (i, rest)) ∧
        exec i s = .fault (.undefinedOpcode op (s.cpu.pc - 1) final) ∧
        final.cpu.hardStopped = true ∧ OnlyChanges [.hardStopped] s final ∧ Took 0 s final ∧
        step final = .fault .hardStopped) ∧
    (op ∉ ([0xD3, 0xDB, 0xDD, 0xE3, 0xE4, 0xEB, 0xEC, 0xED, 0xF4, 0xFC, 0xFD] : List Byte) →
      ∀ (b1 b2 : Byte) (i : Instr) (rest : List Byte), decode [op, b1, b2] = .ok (i, rest) →
        ∀ f, exec i s ≠ .fault f)

/-! ### The step -/

/-- R303 phases 1, 3, 4, R111, R97: when nothing is dispatched and the CPU is not
idle, a step is `exec` of the instruction its bytes decode to, from the state with
the pending-enable flag consumed, `halted` cleared and the `PC` past the
instruction; then the timer and the PPU advance by its cycles. -/
def Obligations.StepRunsDecodedInstruction : Prop :=
  ∀ (s : State) (i : Instr) (rest : List Byte),
    let ime := s.cpu.ime || s.cpu.imePending
    let pending := s.bus.ie &&& s.bus.iff
    s.cpu.hardStopped = false → (ime = false ∨ pending = 0) → (s.cpu.halted = true → pending ≠ 0) →
    decode [s.bus.read s.cpu.pc, s.bus.read (s.cpu.pc + 1), s.bus.read (s.cpu.pc + 2)] = .ok (i, rest) →
    i.WellFormed ∧
    step s =
      match exec i
        { s with
          cpu :=
            { s.cpu with
              ime := ime
              imePending := false
              halted := false
              pc := s.cpu.pc + BitVec.ofNat 16 i.size } } with
      | .next t => .next { t with bus := t.bus.advance (t.cpu.cycleCount - s.cpu.cycleCount) }
      | .fault f => .fault f
      | .refused r => .refused r

/-- R304, R305, R306, R307(a), R316: with `IME` set (or about to be) and the source
`src` the lowest-numbered set bit of the pending set, the step is its dispatch and
fetches nothing: `PC` at the vector, the old `PC` pushed high byte first after the
request bit is cleared, `IME` and `halted` cleared, 20 cycles, nothing else
changed; then the timer and the PPU advance. -/
def Obligations.InterruptDispatch : Prop :=
  ∀ (s : State) (src : Source),
    let pending := s.bus.ie &&& s.bus.iff
    let cleared := { s.bus with iff := s.bus.iff &&& ~~~BitVec.ofNat 5 (2 ^ src.bit) }
    s.cpu.hardStopped = false → (s.cpu.ime = true ∨ s.cpu.imePending = true) →
    pending.getLsbD src.bit = true → (∀ j, j < src.bit → pending.getLsbD j = false) →
    ∃ t, step s = .next t ∧ t.cpu.pc.toNat = 0x0040 + 8 * src.bit ∧ t.cpu.sp = s.cpu.sp - 2 ∧
      t.cpu.ime = false ∧ t.cpu.imePending = false ∧ t.cpu.halted = false ∧
      t.bus =
        (((cleared.write (s.cpu.sp - 1) (s.cpu.pc.extractLsb' 8 8)).write (s.cpu.sp - 2)
          (s.cpu.pc.extractLsb' 0 8)).advance 20) ∧
      Took 20 s t ∧ OnlyChanges [.pc, .sp, .ime, .imePending, .halted, .bus] s t

/-- R303 phase 3, R30: halted with nothing pending, a step is one idle cycle-unit
and moves nothing but the peripherals and the pending-enable flag. -/
def Obligations.HaltedIdleStep : Prop :=
  ∀ s : State, s.cpu.hardStopped = false → s.cpu.halted = true → s.bus.ie &&& s.bus.iff = 0 →
    ∃ t, step s = .next t ∧ t.cpu.halted = true ∧ t.cpu.imePending = false ∧
      t.cpu.ime = (s.cpu.ime || s.cpu.imePending) ∧ t.bus = s.bus.advance 1 ∧ Took 1 s t ∧
      OnlyChanges [.ime, .imePending, .bus] s t

/-- R285, R29: the step that runs `EI` (at the `PC`, `IME` and the pending-enable flag
clear) does not set `IME`; the next step sets it before its check, so a source
pending then is dispatched by that very step, pushing the address after the `EI`. -/
def Obligations.EnableInterruptLatency : Prop :=
  ∀ s : State, s.cpu.hardStopped = false → s.cpu.ime = false → s.cpu.imePending = false →
    s.cpu.halted = false → s.bus.read s.cpu.pc = 0xFB →
    ∃ t, step s = .next t ∧ t.cpu.pc = s.cpu.pc + 1 ∧ t.cpu.ime = false ∧ t.cpu.imePending = true ∧
      t.bus = s.bus.advance 4 ∧
      ∀ src : Source, (t.bus.ie &&& t.bus.iff).getLsbD src.bit = true →
        (∀ j, j < src.bit → (t.bus.ie &&& t.bus.iff).getLsbD j = false) →
        ∃ u, step t = .next u ∧ u.cpu.pc.toNat = 0x0040 + 8 * src.bit ∧ u.cpu.sp = s.cpu.sp - 2 ∧
          u.cpu.ime = false ∧ u.cpu.imePending = false ∧
          u.bus =
            ((({ t.bus with iff := t.bus.iff &&& ~~~BitVec.ofNat 5 (2 ^ src.bit) }.write (s.cpu.sp - 1)
              ((s.cpu.pc + 1).extractLsb' 8 8)).write (s.cpu.sp - 2)
              ((s.cpu.pc + 1).extractLsb' 0 8)).advance 20)

/-! ### Rules over the whole machine -/

/-- R28: a step leaves `IME` set only if it was set or pending before, or if it ran
`RETI`; R29: it leaves the pending-enable flag set only if it ran `EI`. -/
def Obligations.OnlyEiAndRetiEnable : Prop :=
  ∀ s t : State, step s = .next t →
    (t.cpu.ime = true → s.cpu.ime = true ∨ s.cpu.imePending = true ∨ s.fetched.1 = .reti) ∧
    (t.cpu.imePending = true → s.fetched.1 = .ei)

/-- R27: an instruction that R27 does not list as a writer of flags leaves all four
flags. -/
def Obligations.OnlyListedInstructionsWriteFlags : Prop :=
  ∀ (i : Instr) (s t : State), exec i s = .next t → writesFlags i = false → t.cpu.flags = s.cpu.flags

/-- R63, R95, R97(a): an instruction's only effect on memory and on every device is
its listed writes, in order; so, where each of these lands in plain storage, every
byte that none of them reaches reads as before. -/
def Obligations.MemoryFrameOfEveryInstruction : Prop :=
  ∀ (i : Instr) (s t : State), exec i s = .next t →
    t.bus = writeAll s.bus (storesOf i s) ∧
    ((∀ w ∈ storesOf i s, IsStorage w.1) →
      ∀ a, (∀ w ∈ storesOf i s, route a ≠ route w.1) → t.bus.read a = s.bus.read a)

/-- R31, R361(c), R362: a step adds at least 1 and at most 24 to `cycle_count`. -/
def Obligations.StepCostBounds : Prop :=
  ∀ s t : State, step s = .next t →
    s.cpu.cycleCount + 1 ≤ t.cpu.cycleCount ∧ t.cpu.cycleCount ≤ s.cpu.cycleCount + 24

/-- R71, R38: no step changes the ROM bytes or the sizes of the cartridge. -/
def Obligations.RomIsImmutable : Prop :=
  ∀ s t : State, step s = .next t →
    t.bus.cart.rom = s.bus.cart.rom ∧ t.bus.cart.romSize = s.bus.cart.romSize ∧
      t.bus.cart.ramSize = s.bus.cart.ramSize

/-- Every step keeps the machine's invariant: memories in canonical form and inside
their windows and chips, bank registers in the range of the bank-0 substitution,
the PPU inside a frame, no hard stop (R85, R87, R88, R334, R303). -/
def Obligations.InvariantKeptByStep : Prop := ∀ s t : State, s.Inv → step s = .next t → t.Inv

/-- The invariant holds after reset, and in every session `power_on` returns. -/
def Obligations.ResetMeetsInvariant : Prop :=
  State.reset.Inv ∧
    ∀ (t : ControllerType) (image : List Byte) (ramSize : Nat) (s : State),
      State.powerOn t image ramSize = .ok s → s.Inv

/-! ### Reset -/

/-- R350, each value the rule lists, for every variant of the cartridge; what the rule
calls unspecified (RAM, plain I/O storage, cartridge RAM) holds no byte a proof could
know. -/
def Obligations.PowerOnState : Prop :=
  ∀ (v : CartVariant) (romSize ramSize : Nat) (rom : Memory),
    let s := State.fresh v romSize ramSize rom
    s.cpu.a = 0x01 ∧ s.cpu.flags = { z := true, n := false, h := true, c := true } ∧ packF s.cpu.flags = 0xB0 ∧
    s.cpu.b = 0x00 ∧ s.cpu.c = 0x13 ∧ s.cpu.d = 0x00 ∧ s.cpu.e = 0xD8 ∧ s.cpu.h = 0x01 ∧ s.cpu.l = 0x4D ∧
    s.cpu.sp = 0xFFFE ∧ s.cpu.pc = 0x0100 ∧ s.cpu.ime = false ∧ s.cpu.imePending = false ∧
    s.cpu.halted = false ∧ s.cpu.cycleCount = 0 ∧ s.cpu.hardStopped = false ∧
    s.bus.ie = 0 ∧ s.bus.read 0xFFFF = 0xE0 ∧ s.bus.iff = 0b00001 ∧ s.bus.read 0xFF0F = 0xE1 ∧
    s.bus.timer.div16 = 0xABCC ∧ s.bus.read 0xFF04 = 0xAB ∧ s.bus.read 0xFF05 = 0x00 ∧
    s.bus.read 0xFF06 = 0x00 ∧ s.bus.timer.tac = 0 ∧ s.bus.read 0xFF07 = 0xF8 ∧
    s.bus.timer.reloadPending = false ∧
    s.bus.read 0xFF00 = 0xCF ∧ s.bus.read 0xFF01 = 0x00 ∧ s.bus.read 0xFF02 = 0x7E ∧
    s.bus.read 0xFF40 = 0x91 ∧ s.bus.read 0xFF41 = 0x85 ∧ s.bus.read 0xFF42 = 0x00 ∧
    s.bus.read 0xFF43 = 0x00 ∧ s.bus.read 0xFF44 = 0x00 ∧ s.bus.read 0xFF45 = 0x00 ∧
    s.bus.read 0xFF46 = 0xFF ∧ s.bus.read 0xFF47 = 0xFC ∧ s.bus.read 0xFF48 = 0xFF ∧
    s.bus.read 0xFF49 = 0xFF ∧ s.bus.read 0xFF4A = 0x00 ∧ s.bus.read 0xFF4B = 0x00 ∧
    s.bus.cart.controller.highBank = 1 ∧ s.bus.cart.rom = rom ∧ s.bus.mem = [] ∧ s.bus.cart.ram = [] ∧
    (match s.bus.cart.controller with
      | .fixed => v = .fixed
      | .simple m => v = .simple ∧ m.ramEnable = false ∧ m.mode = false ∧ m.secondary = 0
      | .rtc m => v = .rtc ∧ m.ramEnable = false ∧ m.select = .ramBank 0 ∧ m.latchArmed = false
      | .extended m => v = .extended ∧ m.ramEnable = false ∧ m.ramBank = 0)

/-- R352: the first step after reset dispatches nothing; it fetches the byte at
0x0100, ROM bank 0 offset 0x0100 for every variant, and runs what it decodes to. -/
def Obligations.FirstStepFetchesRom : Prop :=
  ∀ (v : CartVariant) (romSize ramSize : Nat) (rom : Memory),
    let s := State.fresh v romSize ramSize rom
    s.bus.read s.cpu.pc = s.bus.cart.romByte (0x0100 % romSize) ∧
      step s = (match exec s.fetched.1 (s.skip s.fetched.2) with
        | .next t => .next { t with bus := t.bus.advance (t.cpu.cycleCount - s.cpu.cycleCount) }
        | .fault f => .fault f
        | .refused r => .refused r)

/-! ### The bus -/

/-- R72, R74 to R77, R79, R81: in video RAM, work RAM, its echo, OAM, high RAM and the
I/O bytes of R79, a written byte is read back, through the echo as well, and every
other address reads as before; the unusable window reads 0xFF and ignores writes. -/
def Obligations.RamReadAfterWrite : Prop :=
  ∀ (b : Bus) (a c : Word) (v : Byte),
    let inRam (n : Nat) : Bool :=
      decide (0x8000 ≤ n ∧ n < 0xA000) || decide (0xC000 ≤ n ∧ n < 0xFEA0) ||
        decide (0xFF01 ≤ n ∧ n < 0xFF04) || decide (0xFF08 ≤ n ∧ n < 0xFF0F) ||
        decide (0xFF10 ≤ n ∧ n < 0xFF40) || decide (0xFF4C ≤ n ∧ n < 0xFFFF)
    let home (n : Nat) : Nat := if 0xE000 ≤ n ∧ n < 0xFE00 then n - 0x2000 else n
    (inRam a.toNat = true →
      (b.write a v).read c = if home c.toNat = home a.toNat then v else b.read c) ∧
    (0xE000 ≤ a.toNat ∧ a.toNat < 0xFE00 →
      b.read a = b.read (a - 0x2000) ∧ b.write a v = b.write (a - 0x2000) v) ∧
    (0xFEA0 ≤ a.toNat ∧ a.toNat < 0xFF00 → b.read a = 0xFF ∧ b.write a v = b)

/-- R33, R34, R35: what a write to IE, IF, DIV, TIMA, TMA and TAC makes each of them
read, and that no other address reads differently. Then the joypad register and the
PPU registers (R36, R78): each reads back the byte last written, no other address
reads differently, and nothing behind the bus changes but that register, the PPU's
position included; that they are plain storage to the CPU, LY and STAT among them, is
the model's reading of R36 (log 16, log 26). -/
def Obligations.DeviceRegisters : Prop :=
  ∀ (b : Bus) (v : Byte) (c : Word),
    let ppuAddresses : List Word :=
      [0xFF40, 0xFF41, 0xFF42, 0xFF43, 0xFF44, 0xFF45, 0xFF47, 0xFF48, 0xFF49, 0xFF4A, 0xFF4B]
    ((b.write 0xFFFF v).read c = if c = 0xFFFF then 0xE0 ||| v else b.read c) ∧
    ((b.write 0xFF0F v).read c = if c = 0xFF0F then 0xE0 ||| v else b.read c) ∧
    ((b.write 0xFF04 v).read c = if c = 0xFF04 then 0x00 else b.read c) ∧
    (b.write 0xFF04 v).timer.div16 = 0 ∧
    ((b.write 0xFF05 v).read c = if c = 0xFF05 then v else b.read c) ∧
    ((b.write 0xFF06 v).read c = if c = 0xFF06 then v else b.read c) ∧
    ((b.write 0xFF07 v).read c = if c = 0xFF07 then 0xF8 ||| v else b.read c) ∧
    ((b.write 0xFF00 v).read c = if c = 0xFF00 then v else b.read c) ∧
    b.write 0xFF00 v = { b with p1 := v } ∧
    ∀ a ∈ ppuAddresses,
      ((b.write a v).read c = if c = a then v else b.read c) ∧
      b.write a v = { b with ppu := (b.write a v).ppu } ∧
      (b.write a v).ppu.line = b.ppu.line ∧ (b.write a v).ppu.dot = b.ppu.dot

/-- R80: a write of `v` to 0xFF46 leaves in OAM the 160 bytes that `v*0x100` and on
read before it, reads back `v`, and changes no other byte. -/
def Obligations.OamDma : Prop :=
  ∀ (b : Bus) (v : Byte),
    (∀ i, i < 160 →
      (b.write 0xFF46 v).read (BitVec.ofNat 16 (0xFE00 + i)) = b.read (BitVec.ofNat 16 (v.toNat * 0x100 + i))) ∧
    (b.write 0xFF46 v).read 0xFF46 = v ∧
    (∀ a : Word, ¬ (0xFE00 ≤ a.toNat ∧ a.toNat < 0xFEA0) → a ≠ 0xFF46 → (b.write 0xFF46 v).read a = b.read a)

/-- R86: the Fixed cartridge reads the image at the address itself and ignores
writes to the ROM windows; its external-RAM window is stored to directly if RAM is
present, and reads 0xFF and ignores writes if not. That no RAM-enable latch guards
it is the model's reading of R86 against R85 (log 7). -/
def Obligations.FixedCartridge : Prop :=
  ∀ (b : Bus) (a : Word) (v : Byte), b.cart.controller = .fixed →
    (a.toNat < 0x8000 → b.read a = b.cart.romByte (a.toNat % b.cart.romSize) ∧ b.write a v = b) ∧
    (0xA000 ≤ a.toNat → a.toNat < 0xC000 →
      (b.cart.ramSize ≠ 0 →
        b.read a = b.cart.ramByte ((a.toNat - 0xA000) % b.cart.ramSize) ∧ (b.write a v).read a = v) ∧
      (b.cart.ramSize = 0 → b.read a = 0xFF ∧ b.write a v = b))

/-- R85, R87: the Simple banked cartridge: the latch and the three registers its
four write windows set, 0 becoming 1 in the low selector, and the banks the two ROM
windows and the external-RAM window read, modulo the sizes; latch clear or no RAM,
the external-RAM window reads 0xFF and a write of it changes nothing. The bank the
switchable window reads in RAM mode is the spec's own choice, "the spec keeps the
same formula" (R87, N16, K21), which the model follows (log 20). -/
def Obligations.SimpleBankedCartridge : Prop :=
  ∀ (b : Bus) (m : SimpleBanked) (a : Word) (v : Byte), b.cart.controller = .simple m →
    let rom (bank : Nat) : Byte := b.cart.romByte ((bank * 0x4000 + a.toNat % 0x4000) % b.cart.romSize)
    (a.toNat < 0x2000 →
      (b.write a v).cart.controller = .simple { m with ramEnable := decide (v.toNat % 16 = 0xA) }) ∧
    (0x2000 ≤ a.toNat → a.toNat < 0x4000 →
      (b.write a v).cart.controller =
        .simple { m with low5 := BitVec.ofNat 5 (if v.toNat % 32 = 0 then 1 else v.toNat % 32) }) ∧
    (0x4000 ≤ a.toNat → a.toNat < 0x6000 →
      (b.write a v).cart.controller = .simple { m with secondary := BitVec.ofNat 2 v.toNat }) ∧
    (0x6000 ≤ a.toNat → a.toNat < 0x8000 →
      (b.write a v).cart.controller = .simple { m with mode := decide (v.toNat % 2 = 1) }) ∧
    (a.toNat < 0x4000 → b.read a = rom (if m.mode then m.secondary.toNat * 32 else 0)) ∧
    (0x4000 ≤ a.toNat → a.toNat < 0x8000 → b.read a = rom (m.secondary.toNat * 32 + m.low5.toNat)) ∧
    (0xA000 ≤ a.toNat → a.toNat < 0xC000 →
      b.read a =
        if m.ramEnable = true ∧ b.cart.ramSize ≠ 0 then
          b.cart.ramByte (((if m.mode then m.secondary.toNat else 0) * 0x2000 + (a.toNat - 0xA000)) %
            b.cart.ramSize)
        else 0xFF) ∧
    (0xA000 ≤ a.toNat → a.toNat < 0xC000 →
      (b.write a v).read a = if m.ramEnable = true ∧ b.cart.ramSize ≠ 0 then v else 0xFF) ∧
    (0xA000 ≤ a.toNat → a.toNat < 0xC000 → ¬ (m.ramEnable = true ∧ b.cart.ramSize ≠ 0) → b.write a v = b)

/-- R88: the RTC-backed cartridge: the latch, the 7-bit ROM bank (0 becoming 1) and
the selection its write windows set, for the values R88 lists; the banks the ROM
windows and the external-RAM window read; and the clock: writing 0 then 1 to the
latch window takes a snapshot of the live clock, after which a selected clock
register reads the snapshot, never the live value, so that a write through the
window to the live register changes no read until the next latch sequence. Latch
clear or no RAM, the external-RAM window reads 0xFF and a write of it changes nothing,
whatever is selected (R85). That "directly follows" is among writes to the latch
window is the model's reading (log 10). -/
def Obligations.RtcBankedCartridge : Prop :=
  ∀ (b : Bus) (m : RtcBanked) (a : Word) (v : Byte), b.cart.controller = .rtc m →
    let rom (bank : Nat) : Byte := b.cart.romByte ((bank * 0x4000 + a.toNat % 0x4000) % b.cart.romSize)
    (a.toNat < 0x2000 →
      (b.write a v).cart.controller = .rtc { m with ramEnable := decide (v.toNat % 16 = 0xA) }) ∧
    (0x2000 ≤ a.toNat → a.toNat < 0x4000 →
      (b.write a v).cart.controller =
        .rtc { m with romBank := BitVec.ofNat 7 (if v.toNat % 128 = 0 then 1 else v.toNat % 128) }) ∧
    (0x4000 ≤ a.toNat → a.toNat < 0x6000 →
      (∀ k : Fin 4, v.toNat = k.val → (b.write a v).cart.controller = .rtc { m with select := .ramBank k }) ∧
      (∀ r : Fin 5, v.toNat = 8 + r.val → (b.write a v).cart.controller = .rtc { m with select := .clock r })) ∧
    (a.toNat < 0x4000 → b.read a = rom 0) ∧
    (0x4000 ≤ a.toNat → a.toNat < 0x8000 → b.read a = rom m.romBank.toNat) ∧
    (0xA000 ≤ a.toNat → a.toNat < 0xC000 → ∀ k : Fin 4, m.select = .ramBank k →
      (b.read a =
        if m.ramEnable = true ∧ b.cart.ramSize ≠ 0 then
          b.cart.ramByte ((k.val * 0x2000 + (a.toNat - 0xA000)) % b.cart.ramSize)
        else 0xFF) ∧
      (b.write a v).read a = if m.ramEnable = true ∧ b.cart.ramSize ≠ 0 then v else 0xFF) ∧
    (0xA000 ≤ a.toNat → a.toNat < 0xC000 → ¬ (m.ramEnable = true ∧ b.cart.ramSize ≠ 0) →
      b.read a = 0xFF ∧ b.write a v = b) ∧
    (0xA000 ≤ a.toNat → a.toNat < 0xC000 → m.ramEnable = true → b.cart.ramSize ≠ 0 →
      ∀ r : Fin 5, m.select = .clock r →
      ∀ w : Word, 0x6000 ≤ w.toNat → w.toNat < 0x8000 →
        let snapshot := m.live.now m.latches
        let latched := (b.write w 0x00).write w 0x01
        b.read a = m.latched.get r ∧ latched.read a = snapshot.get r ∧
          (latched.write a v).read a = snapshot.get r ∧
          ∃ m', (latched.write a v).cart.controller = .rtc m' ∧ m'.live = snapshot.set r v ∧ m'.latched = snapshot)

/-- R89: the Extended banked cartridge: a 9-bit ROM bank written in two parts, no
bank-0 substitution, a 4-bit RAM bank; the external-RAM window as in R85: latch clear
or no RAM, it reads 0xFF and a write of it changes nothing. -/
def Obligations.ExtendedBankedCartridge : Prop :=
  ∀ (b : Bus) (m : ExtendedBanked) (a : Word) (v : Byte), b.cart.controller = .extended m →
    let rom (bank : Nat) : Byte := b.cart.romByte ((bank * 0x4000 + a.toNat % 0x4000) % b.cart.romSize)
    (a.toNat < 0x2000 →
      (b.write a v).cart.controller = .extended { m with ramEnable := decide (v.toNat % 16 = 0xA) }) ∧
    (0x2000 ≤ a.toNat → a.toNat < 0x3000 →
      (b.write a v).cart.controller =
        .extended { m with romBank := BitVec.ofNat 9 (m.romBank.toNat / 256 * 256 + v.toNat) }) ∧
    (0x3000 ≤ a.toNat → a.toNat < 0x4000 →
      (b.write a v).cart.controller =
        .extended { m with romBank := BitVec.ofNat 9 (v.toNat % 2 * 256 + m.romBank.toNat % 256) }) ∧
    (0x4000 ≤ a.toNat → a.toNat < 0x6000 →
      (b.write a v).cart.controller = .extended { m with ramBank := BitVec.ofNat 4 v.toNat }) ∧
    (a.toNat < 0x4000 → b.read a = rom 0) ∧
    (0x4000 ≤ a.toNat → a.toNat < 0x8000 → b.read a = rom m.romBank.toNat) ∧
    (0xA000 ≤ a.toNat → a.toNat < 0xC000 →
      b.read a =
        if m.ramEnable = true ∧ b.cart.ramSize ≠ 0 then
          b.cart.ramByte ((m.ramBank.toNat * 0x2000 + (a.toNat - 0xA000)) % b.cart.ramSize)
        else 0xFF) ∧
    (0xA000 ≤ a.toNat → a.toNat < 0xC000 →
      (b.write a v).read a = if m.ramEnable = true ∧ b.cart.ramSize ≠ 0 then v else 0xFF) ∧
    (0xA000 ≤ a.toNat → a.toNat < 0xC000 → ¬ (m.ramEnable = true ∧ b.cart.ramSize ≠ 0) → b.write a v = b)

/-- R314, R100: `set_button(b, pressed = true)` between steps requests the joypad
interrupt and changes nothing else, `pressed = false` changes nothing; host access
is CPU access. R90, R351: `power_on` fails before any step on an unsupported
controller type, whatever the image (log 8), and on an image without a byte, the
model's criterion of a malformed one (log 21); else it returns the fresh session of
R350 whose ROM is the image. -/
def Obligations.HostOperations : Prop :=
  (∀ (s : State) (a : Word) (v : Byte),
    (s.setButton true).cpu = s.cpu ∧ (s.setButton true).bus = { s.bus with iff := (s.setButton true).bus.iff } ∧
    (s.setButton true).bus.iff.getLsbD 4 = true ∧
    (∀ j, j ≠ 4 → (s.setButton true).bus.iff.getLsbD j = s.bus.iff.getLsbD j) ∧
    s.setButton false = s ∧ s.readMemory a = s.bus.read a ∧
    (s.writeMemory a v).bus = s.bus.write a v ∧ (s.writeMemory a v).cpu = s.cpu) ∧
  ∀ (v : CartVariant) (image : List Byte) (ramSize : Nat),
    State.powerOn .unsupported image ramSize = .error .unsupportedController ∧
    State.powerOn (.supported v) [] ramSize = .error .malformedImage ∧
    (image ≠ [] →
      ∃ s, State.powerOn (.supported v) image ramSize = .ok s ∧
        s = State.fresh v image.length ramSize s.bus.cart.rom ∧
        ∀ k, k < image.length → s.bus.cart.romByte k = image.getD k 0)

/-! ### Timer and PPU -/

/-- R322, R323: one tick in full, the bit R321 selects and its 1-to-0
transition in numbers; the request bit is set in the tick that reloads. -/
def Obligations.TimerTick : Prop :=
  ∀ b : Bus,
    let t := b.timer
    let bit := ([9, 3, 5, 7] : List Nat).getD (t.tac.toNat % 4) 0
    let div := t.div16.toNat
    let falls := decide (div / 2 ^ bit % 2 = 1) && decide ((div + 1) % 0x10000 / 2 ^ bit % 2 = 0)
    let counts := t.tac.getLsbD 2 && falls
    let tima := if t.reloadPending then t.tma.toNat else t.tima.toNat
    let u := b.timerTick
    u.timer.div16.toNat = (div + 1) % 0x10000 ∧
    u.timer.tima.toNat = (if counts then (tima + 1) % 256 else tima) ∧
    u.timer.reloadPending = (counts && decide (tima = 0xFF)) ∧
    u.timer.tma = t.tma ∧ u.timer.tac = t.tac ∧
    u = { b with timer := u.timer, iff := if t.reloadPending then b.iff ||| 0b00100 else b.iff }

/-- R321: while enabled and short of an overflow, the counter increments exactly once
in every 1024, 16, 64 or 256 cycle-units, wherever the divider stands. -/
def Obligations.TimerPeriod : Prop :=
  ∀ b : Bus,
    let period := ([1024, 16, 64, 256] : List Nat).getD (b.timer.tac.toNat % 4) 0
    b.timer.tac.getLsbD 2 = true → b.timer.reloadPending = false → b.timer.tima.toNat < 0xFF →
    (b.timerAdvance period).timer.tima.toNat = b.timer.tima.toNat + 1 ∧
      (b.timerAdvance period).timer.reloadPending = false ∧ (b.timerAdvance period).iff = b.iff

/-- R334: from any position a whole frame of 70224 cycle-units brings the PPU back to
it, and exactly one of these cycle-units raises the vertical-blank request; from the
start of a frame it is the one that enters scanline 144. -/
def Obligations.OneVerticalBlankPerFrame : Prop :=
  ∀ b : Bus, b.ppu.Inv →
    (b.ppuAdvance 70224).ppu.line = b.ppu.line ∧ (b.ppuAdvance 70224).ppu.dot = b.ppu.dot ∧
    (∃ k, k < 70224 ∧ ∀ j, j < 70224 → ((b.ppuAdvance j).ppu.tickRequests.getLsbD 0 = true ↔ j = k)) ∧
    (b.ppuAdvance 70224).iff.getLsbD 0 = true ∧
    (b.ppu.line = 0 → b.ppu.dot = 0 →
      (b.ppuAdvance 65663).ppu.tickRequests.getLsbD 0 = true ∧ (b.ppuAdvance 65664).ppu.line = 144 ∧
        (b.ppuAdvance 65664).ppu.dot = 0)

/-- R312, R334: which requests one cycle-unit raises, from the position it reaches:
vertical-blank on entering scanline 144; LCD-status on entering modes 0, 1, 2 or on
the line compare, each under its enable bit 3, 4, 5, 6 of STAT; nothing else. In the
vertical-blank scanlines the line compare is the model's free value (log 17). And what
it leaves in the PPU's registers, the model's reading of R36 (log 16): LY takes the
number of a scanline that starts, bits 1:0 of STAT the number of a mode that is
entered, and every other bit and register is kept. -/
def Obligations.PpuTick : Prop :=
  ∀ b : Bus, b.ppu.Inv →
    let p := b.ppu
    let n := (p.line * 456 + p.dot + 1) % 70224
    let line := n / 456
    let dot := n % 456
    let visible := decide (line < 144)
    let status :=
      (p.stat.getLsbD 3 && visible && decide (dot = 252)) ||
        (p.stat.getLsbD 4 && decide (line = 144) && decide (dot = 0)) ||
        (p.stat.getLsbD 5 && visible && decide (dot = 0)) ||
        (p.stat.getLsbD 6 && decide (dot = 0) && decide (p.lyc.toNat = line) &&
          (visible || Config.lineCompareInVblank))
    let mode : Nat :=
      if line < 144 ∧ dot = 0 then 2
      else if line < 144 ∧ dot = 80 then 3
      else if line < 144 ∧ dot = 252 then 0
      else if line = 144 ∧ dot = 0 then 1
      else p.stat.toNat % 4
    let ly : Byte := if dot = 0 then BitVec.ofNat 8 line else p.ly
    let stat : Byte := BitVec.ofNat 8 (p.stat.toNat / 4 * 4 + mode)
    let u := b.ppuTick
    u.ppu = { p with line := line, dot := dot, ly := ly, stat := stat } ∧
    u.iff.getLsbD 0 = (b.iff.getLsbD 0 || decide (line = 144 ∧ dot = 0)) ∧
    u.iff.getLsbD 1 = (b.iff.getLsbD 1 || status) ∧
    (∀ j, 2 ≤ j → u.iff.getLsbD j = b.iff.getLsbD j) ∧
    u = { b with ppu := u.ppu, iff := u.iff }
end

