-- ==== Sys2Proof/Laws/State.lean ====
section
/-!
SUPPORT. The small lemmas of the state's updates: one per field per update, and
reading a register after writing one.
-/

namespace Sys2Proof.Machine


/-! ### Registers of the CPU record -/

@[simp] theorem Cpu.set_flags (s : Cpu) (r : Reg) (v : Byte) : (s.set r v).flags = s.flags := by cases r <;> rfl
@[simp] theorem Cpu.set_sp (s : Cpu) (r : Reg) (v : Byte) : (s.set r v).sp = s.sp := by cases r <;> rfl
@[simp] theorem Cpu.set_pc (s : Cpu) (r : Reg) (v : Byte) : (s.set r v).pc = s.pc := by cases r <;> rfl
@[simp] theorem Cpu.set_ime (s : Cpu) (r : Reg) (v : Byte) : (s.set r v).ime = s.ime := by cases r <;> rfl
@[simp] theorem Cpu.set_imePending (s : Cpu) (r : Reg) (v : Byte) : (s.set r v).imePending = s.imePending := by cases r <;> rfl
@[simp] theorem Cpu.set_halted (s : Cpu) (r : Reg) (v : Byte) : (s.set r v).halted = s.halted := by cases r <;> rfl
@[simp] theorem Cpu.set_cycleCount (s : Cpu) (r : Reg) (v : Byte) : (s.set r v).cycleCount = s.cycleCount := by cases r <;> rfl
@[simp] theorem Cpu.set_hardStopped (s : Cpu) (r : Reg) (v : Byte) : (s.set r v).hardStopped = s.hardStopped := by cases r <;> rfl
@[simp] theorem Cpu.get_set_same (s : Cpu) (r : Reg) (v : Byte) : (s.set r v).get r = v := by cases r <;> rfl
theorem Cpu.get_set_other (s : Cpu) (r q : Reg) (v : Byte) (h : q ≠ r) : (s.set r v).get q = s.get q := by
  cases r <;> cases q <;> first | rfl | exact absurd rfl h
@[simp] theorem Cpu.get_a (s : Cpu) : s.get .a = s.a := rfl
@[simp] theorem Cpu.setBC_flags (s : Cpu) (v : Word) : (s.setBC v).flags = s.flags := rfl
@[simp] theorem Cpu.setBC_sp (s : Cpu) (v : Word) : (s.setBC v).sp = s.sp := rfl
@[simp] theorem Cpu.setBC_pc (s : Cpu) (v : Word) : (s.setBC v).pc = s.pc := rfl
@[simp] theorem Cpu.setBC_ime (s : Cpu) (v : Word) : (s.setBC v).ime = s.ime := rfl
@[simp] theorem Cpu.setBC_imePending (s : Cpu) (v : Word) : (s.setBC v).imePending = s.imePending := rfl
@[simp] theorem Cpu.setBC_halted (s : Cpu) (v : Word) : (s.setBC v).halted = s.halted := rfl
@[simp] theorem Cpu.setBC_cycleCount (s : Cpu) (v : Word) : (s.setBC v).cycleCount = s.cycleCount := rfl
@[simp] theorem Cpu.setBC_hardStopped (s : Cpu) (v : Word) : (s.setBC v).hardStopped = s.hardStopped := rfl
@[simp] theorem Cpu.setBC_a (s : Cpu) (v : Word) : (s.setBC v).a = s.a := rfl
@[simp] theorem Cpu.setBC_b (s : Cpu) (v : Word) : (s.setBC v).b = hiByte v := rfl
@[simp] theorem Cpu.setBC_c (s : Cpu) (v : Word) : (s.setBC v).c = loByte v := rfl
@[simp] theorem Cpu.setBC_d (s : Cpu) (v : Word) : (s.setBC v).d = s.d := rfl
@[simp] theorem Cpu.setBC_e (s : Cpu) (v : Word) : (s.setBC v).e = s.e := rfl
@[simp] theorem Cpu.setBC_h (s : Cpu) (v : Word) : (s.setBC v).h = s.h := rfl
@[simp] theorem Cpu.setBC_l (s : Cpu) (v : Word) : (s.setBC v).l = s.l := rfl
@[simp] theorem Cpu.setDE_flags (s : Cpu) (v : Word) : (s.setDE v).flags = s.flags := rfl
@[simp] theorem Cpu.setDE_sp (s : Cpu) (v : Word) : (s.setDE v).sp = s.sp := rfl
@[simp] theorem Cpu.setDE_pc (s : Cpu) (v : Word) : (s.setDE v).pc = s.pc := rfl
@[simp] theorem Cpu.setDE_ime (s : Cpu) (v : Word) : (s.setDE v).ime = s.ime := rfl
@[simp] theorem Cpu.setDE_imePending (s : Cpu) (v : Word) : (s.setDE v).imePending = s.imePending := rfl
@[simp] theorem Cpu.setDE_halted (s : Cpu) (v : Word) : (s.setDE v).halted = s.halted := rfl
@[simp] theorem Cpu.setDE_cycleCount (s : Cpu) (v : Word) : (s.setDE v).cycleCount = s.cycleCount := rfl
@[simp] theorem Cpu.setDE_hardStopped (s : Cpu) (v : Word) : (s.setDE v).hardStopped = s.hardStopped := rfl
@[simp] theorem Cpu.setDE_a (s : Cpu) (v : Word) : (s.setDE v).a = s.a := rfl
@[simp] theorem Cpu.setDE_b (s : Cpu) (v : Word) : (s.setDE v).b = s.b := rfl
@[simp] theorem Cpu.setDE_c (s : Cpu) (v : Word) : (s.setDE v).c = s.c := rfl
@[simp] theorem Cpu.setDE_d (s : Cpu) (v : Word) : (s.setDE v).d = hiByte v := rfl
@[simp] theorem Cpu.setDE_e (s : Cpu) (v : Word) : (s.setDE v).e = loByte v := rfl
@[simp] theorem Cpu.setDE_h (s : Cpu) (v : Word) : (s.setDE v).h = s.h := rfl
@[simp] theorem Cpu.setDE_l (s : Cpu) (v : Word) : (s.setDE v).l = s.l := rfl
@[simp] theorem Cpu.setHL_flags (s : Cpu) (v : Word) : (s.setHL v).flags = s.flags := rfl
@[simp] theorem Cpu.setHL_sp (s : Cpu) (v : Word) : (s.setHL v).sp = s.sp := rfl
@[simp] theorem Cpu.setHL_pc (s : Cpu) (v : Word) : (s.setHL v).pc = s.pc := rfl
@[simp] theorem Cpu.setHL_ime (s : Cpu) (v : Word) : (s.setHL v).ime = s.ime := rfl
@[simp] theorem Cpu.setHL_imePending (s : Cpu) (v : Word) : (s.setHL v).imePending = s.imePending := rfl
@[simp] theorem Cpu.setHL_halted (s : Cpu) (v : Word) : (s.setHL v).halted = s.halted := rfl
@[simp] theorem Cpu.setHL_cycleCount (s : Cpu) (v : Word) : (s.setHL v).cycleCount = s.cycleCount := rfl
@[simp] theorem Cpu.setHL_hardStopped (s : Cpu) (v : Word) : (s.setHL v).hardStopped = s.hardStopped := rfl
@[simp] theorem Cpu.setHL_a (s : Cpu) (v : Word) : (s.setHL v).a = s.a := rfl
@[simp] theorem Cpu.setHL_b (s : Cpu) (v : Word) : (s.setHL v).b = s.b := rfl
@[simp] theorem Cpu.setHL_c (s : Cpu) (v : Word) : (s.setHL v).c = s.c := rfl
@[simp] theorem Cpu.setHL_d (s : Cpu) (v : Word) : (s.setHL v).d = s.d := rfl
@[simp] theorem Cpu.setHL_e (s : Cpu) (v : Word) : (s.setHL v).e = s.e := rfl
@[simp] theorem Cpu.setHL_h (s : Cpu) (v : Word) : (s.setHL v).h = hiByte v := rfl
@[simp] theorem Cpu.setHL_l (s : Cpu) (v : Word) : (s.setHL v).l = loByte v := rfl

/-- A pair is its halves. -/
@[simp] theorem pairOf_hi_lo (v : Word) : pairOf (hiByte v) (loByte v) = v := by
  apply BitVec.eq_of_getLsbD_eq
  intro i hi
  simp only [pairOf, hiByte, loByte, BitVec.getLsbD_append, BitVec.getLsbD_extractLsb']
  split
  · simp_all
  · simp_all
    omega

@[simp] theorem hiByte_pairOf (x y : Byte) : hiByte (pairOf x y) = x := by
  apply BitVec.eq_of_getLsbD_eq
  intro i hi
  rw [hiByte, BitVec.getLsbD_extractLsb']
  refine (congrArg (decide (i < 8) && ·) (BitVec.getLsbD_append (x := x) (y := y) (i := 8 + i))).trans ?_
  simp [hi]

@[simp] theorem loByte_pairOf (x y : Byte) : loByte (pairOf x y) = y := by
  apply BitVec.eq_of_getLsbD_eq
  intro i hi
  rw [loByte, BitVec.getLsbD_extractLsb']
  refine (congrArg (decide (i < 8) && ·) (BitVec.getLsbD_append (x := x) (y := y) (i := 0 + i))).trans ?_
  simp [hi]

@[simp] theorem Cpu.bc_setBC (s : Cpu) (v : Word) : (s.setBC v).bc = v := pairOf_hi_lo v
@[simp] theorem Cpu.de_setDE (s : Cpu) (v : Word) : (s.setDE v).de = v := pairOf_hi_lo v
@[simp] theorem Cpu.hl_setHL (s : Cpu) (v : Word) : (s.setHL v).hl = v := pairOf_hi_lo v

/-- A pair written reads back (R10, R114). -/
@[simp] theorem Cpu.getRP_setRP (s : Cpu) (p : RP) (v : Word) : (s.setRP p v).getRP p = v := by
  cases p <;> first | exact pairOf_hi_lo v | rfl

@[simp] theorem Cpu.setRP_pc (s : Cpu) (p : RP) (v : Word) : (s.setRP p v).pc = s.pc := by cases p <;> rfl
@[simp] theorem Cpu.setRP_ime (s : Cpu) (p : RP) (v : Word) : (s.setRP p v).ime = s.ime := by cases p <;> rfl
@[simp] theorem Cpu.setRP_imePending (s : Cpu) (p : RP) (v : Word) : (s.setRP p v).imePending = s.imePending := by cases p <;> rfl
@[simp] theorem Cpu.setRP_halted (s : Cpu) (p : RP) (v : Word) : (s.setRP p v).halted = s.halted := by cases p <;> rfl
@[simp] theorem Cpu.setRP_cycleCount (s : Cpu) (p : RP) (v : Word) : (s.setRP p v).cycleCount = s.cycleCount := by cases p <;> rfl
@[simp] theorem Cpu.setRP_hardStopped (s : Cpu) (p : RP) (v : Word) : (s.setRP p v).hardStopped = s.hardStopped := by cases p <;> rfl
@[simp] theorem Cpu.setRP2_pc (s : Cpu) (p : RP2) (v : Word) : (s.setRP2 p v).pc = s.pc := by cases p <;> rfl
@[simp] theorem Cpu.setRP2_ime (s : Cpu) (p : RP2) (v : Word) : (s.setRP2 p v).ime = s.ime := by cases p <;> rfl
@[simp] theorem Cpu.setRP2_imePending (s : Cpu) (p : RP2) (v : Word) : (s.setRP2 p v).imePending = s.imePending := by cases p <;> rfl
@[simp] theorem Cpu.setRP2_halted (s : Cpu) (p : RP2) (v : Word) : (s.setRP2 p v).halted = s.halted := by cases p <;> rfl
@[simp] theorem Cpu.setRP2_cycleCount (s : Cpu) (p : RP2) (v : Word) : (s.setRP2 p v).cycleCount = s.cycleCount := by cases p <;> rfl
@[simp] theorem Cpu.setRP2_hardStopped (s : Cpu) (p : RP2) (v : Word) : (s.setRP2 p v).hardStopped = s.hardStopped := by cases p <;> rfl
@[simp] theorem Cpu.setRP_flags (s : Cpu) (p : RP) (v : Word) : (s.setRP p v).flags = s.flags := by cases p <;> rfl
@[simp] theorem Cpu.setRP2_sp (s : Cpu) (p : RP2) (v : Word) : (s.setRP2 p v).sp = s.sp := by cases p <;> rfl

/-! ### Updates of the state -/

@[simp] theorem State.setFlags_flags (s : State) (f : Flags) : (s.setFlags f).cpu.flags = f := rfl
@[simp] theorem State.setFlags_sp (s : State) (f : Flags) : (s.setFlags f).cpu.sp = s.cpu.sp := rfl
@[simp] theorem State.setFlags_pc (s : State) (f : Flags) : (s.setFlags f).cpu.pc = s.cpu.pc := rfl
@[simp] theorem State.setFlags_ime (s : State) (f : Flags) : (s.setFlags f).cpu.ime = s.cpu.ime := rfl
@[simp] theorem State.setFlags_imePending (s : State) (f : Flags) : (s.setFlags f).cpu.imePending = s.cpu.imePending := rfl
@[simp] theorem State.setFlags_halted (s : State) (f : Flags) : (s.setFlags f).cpu.halted = s.cpu.halted := rfl
@[simp] theorem State.setFlags_cycleCount (s : State) (f : Flags) : (s.setFlags f).cpu.cycleCount = s.cpu.cycleCount := rfl
@[simp] theorem State.setFlags_hardStopped (s : State) (f : Flags) : (s.setFlags f).cpu.hardStopped = s.cpu.hardStopped := rfl
@[simp] theorem State.setFlags_bus (s : State) (f : Flags) : (s.setFlags f).bus = s.bus := rfl
@[simp] theorem State.setFlags_get (s : State) (f : Flags) (r : Reg) : (s.setFlags f).cpu.get r = s.cpu.get r := by cases r <;> rfl
@[simp] theorem State.setFlags_a (s : State) (f : Flags) : (s.setFlags f).cpu.a = s.cpu.a := rfl
@[simp] theorem State.setFlags_b (s : State) (f : Flags) : (s.setFlags f).cpu.b = s.cpu.b := rfl
@[simp] theorem State.setFlags_c (s : State) (f : Flags) : (s.setFlags f).cpu.c = s.cpu.c := rfl
@[simp] theorem State.setFlags_d (s : State) (f : Flags) : (s.setFlags f).cpu.d = s.cpu.d := rfl
@[simp] theorem State.setFlags_e (s : State) (f : Flags) : (s.setFlags f).cpu.e = s.cpu.e := rfl
@[simp] theorem State.setFlags_h (s : State) (f : Flags) : (s.setFlags f).cpu.h = s.cpu.h := rfl
@[simp] theorem State.setFlags_l (s : State) (f : Flags) : (s.setFlags f).cpu.l = s.cpu.l := rfl
@[simp] theorem State.setSP_flags (s : State) (v : Word) : (s.setSP v).cpu.flags = s.cpu.flags := rfl
@[simp] theorem State.setSP_sp (s : State) (v : Word) : (s.setSP v).cpu.sp = v := rfl
@[simp] theorem State.setSP_pc (s : State) (v : Word) : (s.setSP v).cpu.pc = s.cpu.pc := rfl
@[simp] theorem State.setSP_ime (s : State) (v : Word) : (s.setSP v).cpu.ime = s.cpu.ime := rfl
@[simp] theorem State.setSP_imePending (s : State) (v : Word) : (s.setSP v).cpu.imePending = s.cpu.imePending := rfl
@[simp] theorem State.setSP_halted (s : State) (v : Word) : (s.setSP v).cpu.halted = s.cpu.halted := rfl
@[simp] theorem State.setSP_cycleCount (s : State) (v : Word) : (s.setSP v).cpu.cycleCount = s.cpu.cycleCount := rfl
@[simp] theorem State.setSP_hardStopped (s : State) (v : Word) : (s.setSP v).cpu.hardStopped = s.cpu.hardStopped := rfl
@[simp] theorem State.setSP_bus (s : State) (v : Word) : (s.setSP v).bus = s.bus := rfl
@[simp] theorem State.setSP_get (s : State) (v : Word) (r : Reg) : (s.setSP v).cpu.get r = s.cpu.get r := by cases r <;> rfl
@[simp] theorem State.setSP_a (s : State) (v : Word) : (s.setSP v).cpu.a = s.cpu.a := rfl
@[simp] theorem State.setSP_b (s : State) (v : Word) : (s.setSP v).cpu.b = s.cpu.b := rfl
@[simp] theorem State.setSP_c (s : State) (v : Word) : (s.setSP v).cpu.c = s.cpu.c := rfl
@[simp] theorem State.setSP_d (s : State) (v : Word) : (s.setSP v).cpu.d = s.cpu.d := rfl
@[simp] theorem State.setSP_e (s : State) (v : Word) : (s.setSP v).cpu.e = s.cpu.e := rfl
@[simp] theorem State.setSP_h (s : State) (v : Word) : (s.setSP v).cpu.h = s.cpu.h := rfl
@[simp] theorem State.setSP_l (s : State) (v : Word) : (s.setSP v).cpu.l = s.cpu.l := rfl
@[simp] theorem State.setPC_flags (s : State) (v : Word) : (s.setPC v).cpu.flags = s.cpu.flags := rfl
@[simp] theorem State.setPC_sp (s : State) (v : Word) : (s.setPC v).cpu.sp = s.cpu.sp := rfl
@[simp] theorem State.setPC_pc (s : State) (v : Word) : (s.setPC v).cpu.pc = v := rfl
@[simp] theorem State.setPC_ime (s : State) (v : Word) : (s.setPC v).cpu.ime = s.cpu.ime := rfl
@[simp] theorem State.setPC_imePending (s : State) (v : Word) : (s.setPC v).cpu.imePending = s.cpu.imePending := rfl
@[simp] theorem State.setPC_halted (s : State) (v : Word) : (s.setPC v).cpu.halted = s.cpu.halted := rfl
@[simp] theorem State.setPC_cycleCount (s : State) (v : Word) : (s.setPC v).cpu.cycleCount = s.cpu.cycleCount := rfl
@[simp] theorem State.setPC_hardStopped (s : State) (v : Word) : (s.setPC v).cpu.hardStopped = s.cpu.hardStopped := rfl
@[simp] theorem State.setPC_bus (s : State) (v : Word) : (s.setPC v).bus = s.bus := rfl
@[simp] theorem State.setPC_get (s : State) (v : Word) (r : Reg) : (s.setPC v).cpu.get r = s.cpu.get r := by cases r <;> rfl
@[simp] theorem State.setPC_a (s : State) (v : Word) : (s.setPC v).cpu.a = s.cpu.a := rfl
@[simp] theorem State.setPC_b (s : State) (v : Word) : (s.setPC v).cpu.b = s.cpu.b := rfl
@[simp] theorem State.setPC_c (s : State) (v : Word) : (s.setPC v).cpu.c = s.cpu.c := rfl
@[simp] theorem State.setPC_d (s : State) (v : Word) : (s.setPC v).cpu.d = s.cpu.d := rfl
@[simp] theorem State.setPC_e (s : State) (v : Word) : (s.setPC v).cpu.e = s.cpu.e := rfl
@[simp] theorem State.setPC_h (s : State) (v : Word) : (s.setPC v).cpu.h = s.cpu.h := rfl
@[simp] theorem State.setPC_l (s : State) (v : Word) : (s.setPC v).cpu.l = s.cpu.l := rfl
@[simp] theorem State.setIME_flags (s : State) (v : Bool) : (s.setIME v).cpu.flags = s.cpu.flags := rfl
@[simp] theorem State.setIME_sp (s : State) (v : Bool) : (s.setIME v).cpu.sp = s.cpu.sp := rfl
@[simp] theorem State.setIME_pc (s : State) (v : Bool) : (s.setIME v).cpu.pc = s.cpu.pc := rfl
@[simp] theorem State.setIME_ime (s : State) (v : Bool) : (s.setIME v).cpu.ime = v := rfl
@[simp] theorem State.setIME_imePending (s : State) (v : Bool) : (s.setIME v).cpu.imePending = s.cpu.imePending := rfl
@[simp] theorem State.setIME_halted (s : State) (v : Bool) : (s.setIME v).cpu.halted = s.cpu.halted := rfl
@[simp] theorem State.setIME_cycleCount (s : State) (v : Bool) : (s.setIME v).cpu.cycleCount = s.cpu.cycleCount := rfl
@[simp] theorem State.setIME_hardStopped (s : State) (v : Bool) : (s.setIME v).cpu.hardStopped = s.cpu.hardStopped := rfl
@[simp] theorem State.setIME_bus (s : State) (v : Bool) : (s.setIME v).bus = s.bus := rfl
@[simp] theorem State.setIME_get (s : State) (v : Bool) (r : Reg) : (s.setIME v).cpu.get r = s.cpu.get r := by cases r <;> rfl
@[simp] theorem State.setIME_a (s : State) (v : Bool) : (s.setIME v).cpu.a = s.cpu.a := rfl
@[simp] theorem State.setIME_b (s : State) (v : Bool) : (s.setIME v).cpu.b = s.cpu.b := rfl
@[simp] theorem State.setIME_c (s : State) (v : Bool) : (s.setIME v).cpu.c = s.cpu.c := rfl
@[simp] theorem State.setIME_d (s : State) (v : Bool) : (s.setIME v).cpu.d = s.cpu.d := rfl
@[simp] theorem State.setIME_e (s : State) (v : Bool) : (s.setIME v).cpu.e = s.cpu.e := rfl
@[simp] theorem State.setIME_h (s : State) (v : Bool) : (s.setIME v).cpu.h = s.cpu.h := rfl
@[simp] theorem State.setIME_l (s : State) (v : Bool) : (s.setIME v).cpu.l = s.cpu.l := rfl
@[simp] theorem State.setImePending_flags (s : State) (v : Bool) : (s.setImePending v).cpu.flags = s.cpu.flags := rfl
@[simp] theorem State.setImePending_sp (s : State) (v : Bool) : (s.setImePending v).cpu.sp = s.cpu.sp := rfl
@[simp] theorem State.setImePending_pc (s : State) (v : Bool) : (s.setImePending v).cpu.pc = s.cpu.pc := rfl
@[simp] theorem State.setImePending_ime (s : State) (v : Bool) : (s.setImePending v).cpu.ime = s.cpu.ime := rfl
@[simp] theorem State.setImePending_imePending (s : State) (v : Bool) : (s.setImePending v).cpu.imePending = v := rfl
@[simp] theorem State.setImePending_halted (s : State) (v : Bool) : (s.setImePending v).cpu.halted = s.cpu.halted := rfl
@[simp] theorem State.setImePending_cycleCount (s : State) (v : Bool) : (s.setImePending v).cpu.cycleCount = s.cpu.cycleCount := rfl
@[simp] theorem State.setImePending_hardStopped (s : State) (v : Bool) : (s.setImePending v).cpu.hardStopped = s.cpu.hardStopped := rfl
@[simp] theorem State.setImePending_bus (s : State) (v : Bool) : (s.setImePending v).bus = s.bus := rfl
@[simp] theorem State.setImePending_get (s : State) (v : Bool) (r : Reg) : (s.setImePending v).cpu.get r = s.cpu.get r := by cases r <;> rfl
@[simp] theorem State.setImePending_a (s : State) (v : Bool) : (s.setImePending v).cpu.a = s.cpu.a := rfl
@[simp] theorem State.setImePending_b (s : State) (v : Bool) : (s.setImePending v).cpu.b = s.cpu.b := rfl
@[simp] theorem State.setImePending_c (s : State) (v : Bool) : (s.setImePending v).cpu.c = s.cpu.c := rfl
@[simp] theorem State.setImePending_d (s : State) (v : Bool) : (s.setImePending v).cpu.d = s.cpu.d := rfl
@[simp] theorem State.setImePending_e (s : State) (v : Bool) : (s.setImePending v).cpu.e = s.cpu.e := rfl
@[simp] theorem State.setImePending_h (s : State) (v : Bool) : (s.setImePending v).cpu.h = s.cpu.h := rfl
@[simp] theorem State.setImePending_l (s : State) (v : Bool) : (s.setImePending v).cpu.l = s.cpu.l := rfl
@[simp] theorem State.setHalted_flags (s : State) (v : Bool) : (s.setHalted v).cpu.flags = s.cpu.flags := rfl
@[simp] theorem State.setHalted_sp (s : State) (v : Bool) : (s.setHalted v).cpu.sp = s.cpu.sp := rfl
@[simp] theorem State.setHalted_pc (s : State) (v : Bool) : (s.setHalted v).cpu.pc = s.cpu.pc := rfl
@[simp] theorem State.setHalted_ime (s : State) (v : Bool) : (s.setHalted v).cpu.ime = s.cpu.ime := rfl
@[simp] theorem State.setHalted_imePending (s : State) (v : Bool) : (s.setHalted v).cpu.imePending = s.cpu.imePending := rfl
@[simp] theorem State.setHalted_halted (s : State) (v : Bool) : (s.setHalted v).cpu.halted = v := rfl
@[simp] theorem State.setHalted_cycleCount (s : State) (v : Bool) : (s.setHalted v).cpu.cycleCount = s.cpu.cycleCount := rfl
@[simp] theorem State.setHalted_hardStopped (s : State) (v : Bool) : (s.setHalted v).cpu.hardStopped = s.cpu.hardStopped := rfl
@[simp] theorem State.setHalted_bus (s : State) (v : Bool) : (s.setHalted v).bus = s.bus := rfl
@[simp] theorem State.setHalted_get (s : State) (v : Bool) (r : Reg) : (s.setHalted v).cpu.get r = s.cpu.get r := by cases r <;> rfl
@[simp] theorem State.setHalted_a (s : State) (v : Bool) : (s.setHalted v).cpu.a = s.cpu.a := rfl
@[simp] theorem State.setHalted_b (s : State) (v : Bool) : (s.setHalted v).cpu.b = s.cpu.b := rfl
@[simp] theorem State.setHalted_c (s : State) (v : Bool) : (s.setHalted v).cpu.c = s.cpu.c := rfl
@[simp] theorem State.setHalted_d (s : State) (v : Bool) : (s.setHalted v).cpu.d = s.cpu.d := rfl
@[simp] theorem State.setHalted_e (s : State) (v : Bool) : (s.setHalted v).cpu.e = s.cpu.e := rfl
@[simp] theorem State.setHalted_h (s : State) (v : Bool) : (s.setHalted v).cpu.h = s.cpu.h := rfl
@[simp] theorem State.setHalted_l (s : State) (v : Bool) : (s.setHalted v).cpu.l = s.cpu.l := rfl
@[simp] theorem State.cycles_flags (s : State) (n : Nat) : (s.cycles n).cpu.flags = s.cpu.flags := rfl
@[simp] theorem State.cycles_sp (s : State) (n : Nat) : (s.cycles n).cpu.sp = s.cpu.sp := rfl
@[simp] theorem State.cycles_pc (s : State) (n : Nat) : (s.cycles n).cpu.pc = s.cpu.pc := rfl
@[simp] theorem State.cycles_ime (s : State) (n : Nat) : (s.cycles n).cpu.ime = s.cpu.ime := rfl
@[simp] theorem State.cycles_imePending (s : State) (n : Nat) : (s.cycles n).cpu.imePending = s.cpu.imePending := rfl
@[simp] theorem State.cycles_halted (s : State) (n : Nat) : (s.cycles n).cpu.halted = s.cpu.halted := rfl
@[simp] theorem State.cycles_cycleCount (s : State) (n : Nat) : (s.cycles n).cpu.cycleCount = s.cpu.cycleCount + n := rfl
@[simp] theorem State.cycles_hardStopped (s : State) (n : Nat) : (s.cycles n).cpu.hardStopped = s.cpu.hardStopped := rfl
@[simp] theorem State.cycles_bus (s : State) (n : Nat) : (s.cycles n).bus = s.bus := rfl
@[simp] theorem State.cycles_get (s : State) (n : Nat) (r : Reg) : (s.cycles n).cpu.get r = s.cpu.get r := by cases r <;> rfl
@[simp] theorem State.cycles_a (s : State) (n : Nat) : (s.cycles n).cpu.a = s.cpu.a := rfl
@[simp] theorem State.cycles_b (s : State) (n : Nat) : (s.cycles n).cpu.b = s.cpu.b := rfl
@[simp] theorem State.cycles_c (s : State) (n : Nat) : (s.cycles n).cpu.c = s.cpu.c := rfl
@[simp] theorem State.cycles_d (s : State) (n : Nat) : (s.cycles n).cpu.d = s.cpu.d := rfl
@[simp] theorem State.cycles_e (s : State) (n : Nat) : (s.cycles n).cpu.e = s.cpu.e := rfl
@[simp] theorem State.cycles_h (s : State) (n : Nat) : (s.cycles n).cpu.h = s.cpu.h := rfl
@[simp] theorem State.cycles_l (s : State) (n : Nat) : (s.cycles n).cpu.l = s.cpu.l := rfl
@[simp] theorem State.setReg_flags (s : State) (r : Reg) (v : Byte) : (s.setReg r v).cpu.flags = s.cpu.flags := by cases r <;> rfl
@[simp] theorem State.setReg_sp (s : State) (r : Reg) (v : Byte) : (s.setReg r v).cpu.sp = s.cpu.sp := by cases r <;> rfl
@[simp] theorem State.setReg_pc (s : State) (r : Reg) (v : Byte) : (s.setReg r v).cpu.pc = s.cpu.pc := by cases r <;> rfl
@[simp] theorem State.setReg_ime (s : State) (r : Reg) (v : Byte) : (s.setReg r v).cpu.ime = s.cpu.ime := by cases r <;> rfl
@[simp] theorem State.setReg_imePending (s : State) (r : Reg) (v : Byte) : (s.setReg r v).cpu.imePending = s.cpu.imePending := by cases r <;> rfl
@[simp] theorem State.setReg_halted (s : State) (r : Reg) (v : Byte) : (s.setReg r v).cpu.halted = s.cpu.halted := by cases r <;> rfl
@[simp] theorem State.setReg_cycleCount (s : State) (r : Reg) (v : Byte) : (s.setReg r v).cpu.cycleCount = s.cpu.cycleCount := by cases r <;> rfl
@[simp] theorem State.setReg_hardStopped (s : State) (r : Reg) (v : Byte) : (s.setReg r v).cpu.hardStopped = s.cpu.hardStopped := by cases r <;> rfl
@[simp] theorem State.setReg_bus (s : State) (r : Reg) (v : Byte) : (s.setReg r v).bus = s.bus := rfl
@[simp] theorem State.setReg_get_same (s : State) (r : Reg) (v : Byte) : (s.setReg r v).cpu.get r = v := Cpu.get_set_same _ _ _
theorem State.setReg_get_other (s : State) (r q : Reg) (v : Byte) (h : q ≠ r) :
    (s.setReg r v).cpu.get q = s.cpu.get q := Cpu.get_set_other _ _ _ _ h
@[simp] theorem State.setHL_flags (s : State) (v : Word) : (s.setHL v).cpu.flags = s.cpu.flags := rfl
@[simp] theorem State.setHL_sp (s : State) (v : Word) : (s.setHL v).cpu.sp = s.cpu.sp := rfl
@[simp] theorem State.setHL_pc (s : State) (v : Word) : (s.setHL v).cpu.pc = s.cpu.pc := rfl
@[simp] theorem State.setHL_ime (s : State) (v : Word) : (s.setHL v).cpu.ime = s.cpu.ime := rfl
@[simp] theorem State.setHL_imePending (s : State) (v : Word) : (s.setHL v).cpu.imePending = s.cpu.imePending := rfl
@[simp] theorem State.setHL_halted (s : State) (v : Word) : (s.setHL v).cpu.halted = s.cpu.halted := rfl
@[simp] theorem State.setHL_cycleCount (s : State) (v : Word) : (s.setHL v).cpu.cycleCount = s.cpu.cycleCount := rfl
@[simp] theorem State.setHL_hardStopped (s : State) (v : Word) : (s.setHL v).cpu.hardStopped = s.cpu.hardStopped := rfl
@[simp] theorem State.setHL_bus (s : State) (v : Word) : (s.setHL v).bus = s.bus := rfl
@[simp] theorem State.setHL_hl (s : State) (v : Word) : (s.setHL v).cpu.hl = v := pairOf_hi_lo v
@[simp] theorem State.setHL_a (s : State) (v : Word) : (s.setHL v).cpu.a = s.cpu.a := rfl
@[simp] theorem State.setHL_b (s : State) (v : Word) : (s.setHL v).cpu.b = s.cpu.b := rfl
@[simp] theorem State.setHL_c (s : State) (v : Word) : (s.setHL v).cpu.c = s.cpu.c := rfl
@[simp] theorem State.setHL_d (s : State) (v : Word) : (s.setHL v).cpu.d = s.cpu.d := rfl
@[simp] theorem State.setHL_e (s : State) (v : Word) : (s.setHL v).cpu.e = s.cpu.e := rfl
@[simp] theorem State.memWrite_cpu (s : State) (a : Word) (v : Byte) : (s.memWrite a v).cpu = s.cpu := rfl
@[simp] theorem State.memWrite_bus (s : State) (a : Word) (v : Byte) : (s.memWrite a v).bus = s.bus.write a v := rfl
@[simp] theorem State.memRead_eq (s : State) (a : Word) : s.memRead a = s.bus.read a := rfl
@[simp] theorem State.popped_bus (s : State) : s.popped.bus = s.bus := rfl
@[simp] theorem State.popped_flags (s : State) : s.popped.cpu.flags = s.cpu.flags := rfl
@[simp] theorem State.popped_sp (s : State) : s.popped.cpu.sp = s.cpu.sp + 2 := rfl
@[simp] theorem State.popped_pc (s : State) : s.popped.cpu.pc = s.cpu.pc := rfl
@[simp] theorem State.popped_ime (s : State) : s.popped.cpu.ime = s.cpu.ime := rfl
@[simp] theorem State.popped_imePending (s : State) : s.popped.cpu.imePending = s.cpu.imePending := rfl
@[simp] theorem State.popped_halted (s : State) : s.popped.cpu.halted = s.cpu.halted := rfl
@[simp] theorem State.popped_cycleCount (s : State) : s.popped.cpu.cycleCount = s.cpu.cycleCount := rfl
@[simp] theorem State.popped_hardStopped (s : State) : s.popped.cpu.hardStopped = s.cpu.hardStopped := rfl
@[simp] theorem State.popped_get (s : State) (r : Reg) : s.popped.cpu.get r = s.cpu.get r := by cases r <;> rfl
@[simp] theorem State.setAcc_flags (s : State) (r : Computed) : (s.setAcc r).cpu.flags = r.flags := rfl
@[simp] theorem State.setAcc_sp (s : State) (r : Computed) : (s.setAcc r).cpu.sp = s.cpu.sp := rfl
@[simp] theorem State.setAcc_pc (s : State) (r : Computed) : (s.setAcc r).cpu.pc = s.cpu.pc := rfl
@[simp] theorem State.setAcc_ime (s : State) (r : Computed) : (s.setAcc r).cpu.ime = s.cpu.ime := rfl
@[simp] theorem State.setAcc_imePending (s : State) (r : Computed) : (s.setAcc r).cpu.imePending = s.cpu.imePending := rfl
@[simp] theorem State.setAcc_halted (s : State) (r : Computed) : (s.setAcc r).cpu.halted = s.cpu.halted := rfl
@[simp] theorem State.setAcc_cycleCount (s : State) (r : Computed) : (s.setAcc r).cpu.cycleCount = s.cpu.cycleCount := rfl
@[simp] theorem State.setAcc_hardStopped (s : State) (r : Computed) : (s.setAcc r).cpu.hardStopped = s.cpu.hardStopped := rfl
@[simp] theorem State.setAcc_a (s : State) (r : Computed) : (s.setAcc r).cpu.a = r.value := rfl
@[simp] theorem State.setAcc_bus (s : State) (r : Computed) : (s.setAcc r).bus = s.bus := rfl
theorem State.setAcc_get_other (s : State) (r : Computed) (q : Reg) (h : q ≠ .a) :
    (s.setAcc r).cpu.get q = s.cpu.get q := by
  cases q <;> first | rfl | exact absurd rfl h
@[simp] theorem State.push16_flags (s : State) (v : Word) : (s.push16 v).cpu.flags = s.cpu.flags := rfl
@[simp] theorem State.push16_pc (s : State) (v : Word) : (s.push16 v).cpu.pc = s.cpu.pc := rfl
@[simp] theorem State.push16_ime (s : State) (v : Word) : (s.push16 v).cpu.ime = s.cpu.ime := rfl
@[simp] theorem State.push16_imePending (s : State) (v : Word) : (s.push16 v).cpu.imePending = s.cpu.imePending := rfl
@[simp] theorem State.push16_halted (s : State) (v : Word) : (s.push16 v).cpu.halted = s.cpu.halted := rfl
@[simp] theorem State.push16_cycleCount (s : State) (v : Word) : (s.push16 v).cpu.cycleCount = s.cpu.cycleCount := rfl
@[simp] theorem State.push16_hardStopped (s : State) (v : Word) : (s.push16 v).cpu.hardStopped = s.cpu.hardStopped := rfl
@[simp] theorem State.push16_sp (s : State) (v : Word) : (s.push16 v).cpu.sp = s.cpu.sp - 2 := by
  show s.cpu.sp - 1 - 1 = s.cpu.sp - 2
  bv_omega
@[simp] theorem State.push16_get (s : State) (v : Word) (r : Reg) : (s.push16 v).cpu.get r = s.cpu.get r := by cases r <;> rfl

/-- `Push16` writes the high byte at `SP - 1`, then the low byte at `SP - 2`
(R11). -/
@[simp] theorem State.push16_bus (s : State) (v : Word) :
    (s.push16 v).bus = (s.bus.write (s.cpu.sp - 1) (hiByte v)).write (s.cpu.sp - 2) (loByte v) := by
  show (s.bus.write (s.cpu.sp - 1) (hiByte v)).write (s.cpu.sp - 1 - 1) (loByte v) = _
  have h : s.cpu.sp - 1 - 1 = s.cpu.sp - 2 := by bv_omega
  rw [h]

end Sys2Proof.Machine
end

