-- ==== Sys2Proof/Laws/Memory.lean ====
section
/-!
SUPPORT. The laws of a memory: a read after a write, what a write leaves alone,
and that every operation keeps the canonical form.
-/

namespace Sys2Proof.Machine

@[simp] theorem Memory.lookup_put_same (m : Memory) (k : Nat) (v : Byte) :
    Memory.lookup (Memory.put m k v) k = some v := by
  induction m with
  | nil => simp [Memory.put, Memory.lookup]
  | cons c rest ih =>
    obtain ⟨j, w⟩ := c
    simp only [Memory.put]
    split
    · simp [Memory.lookup]
    · split
      · simp [Memory.lookup]
      · next hne => simpa [Memory.lookup, hne] using ih

theorem Memory.lookup_put_other (m : Memory) (k q : Nat) (v : Byte) (h : q ≠ k) :
    Memory.lookup (Memory.put m k v) q = Memory.lookup m q := by
  induction m with
  | nil => simp [Memory.put, Memory.lookup, Ne.symm h]
  | cons c rest ih =>
    obtain ⟨j, w⟩ := c
    simp only [Memory.put]
    split
    · simp [Memory.lookup, Ne.symm h]
    · split
      · next heq =>
        subst heq
        simp [Memory.lookup, Ne.symm h]
      · simp only [Memory.lookup]
        split
        · rfl
        · exact ih

theorem Memory.risingAbove_put (m : Memory) (lo k : Nat) (v : Byte)
    (hm : Memory.risingAbove m lo = true) (hk : lo < k) :
    Memory.risingAbove (Memory.put m k v) lo = true := by
  induction m generalizing lo with
  | nil => simp [Memory.put, Memory.risingAbove, hk]
  | cons c rest ih =>
    obtain ⟨j, w⟩ := c
    simp only [Memory.risingAbove, Bool.and_eq_true, decide_eq_true_eq] at hm
    simp only [Memory.put]
    split
    · next hlt => simp [Memory.risingAbove, hk, hlt, hm.2]
    · split
      · next heq =>
        subst heq
        simp [Memory.risingAbove, hk, hm.2]
      · next hnlt hne =>
        simp only [Memory.risingAbove, Bool.and_eq_true, decide_eq_true_eq]
        exact ⟨hm.1, ih j hm.2 (by omega)⟩

/-- A write keeps the canonical form. -/
theorem Memory.wf_put (m : Memory) (k : Nat) (v : Byte) (hm : Memory.wf m = true) :
    Memory.wf (Memory.put m k v) = true := by
  cases m with
  | nil => simp [Memory.put, Memory.wf, Memory.risingAbove]
  | cons c rest =>
    obtain ⟨j, w⟩ := c
    simp only [Memory.wf] at hm
    simp only [Memory.put]
    split
    · next hlt => simp [Memory.wf, Memory.risingAbove, hlt, hm]
    · split
      · next heq =>
        subst heq
        simpa [Memory.wf] using hm
      · next hnlt hne =>
        simp only [Memory.wf]
        exact Memory.risingAbove_put rest j k v hm (by omega)

/-- A write at an index that satisfies `p` keeps every listed index in `p`. -/
theorem Memory.within_put (m : Memory) (p : Nat → Bool) (k : Nat) (v : Byte)
    (hm : Memory.within m p = true) (hk : p k = true) : Memory.within (Memory.put m k v) p = true := by
  induction m with
  | nil => simp [Memory.put, Memory.within, hk]
  | cons c rest ih =>
    obtain ⟨j, w⟩ := c
    simp only [Memory.within, List.all_cons, Bool.and_eq_true] at hm ih
    simp only [Memory.put]
    split
    · simp [Memory.within, hk, hm.1, hm.2]
    · split
      · simp [Memory.within, hk, hm.2]
      · simp only [Memory.within, List.all_cons, Bool.and_eq_true]
        exact ⟨hm.1, ih hm.2⟩

/-- Reset memory lists nothing and is in canonical form. -/
theorem reset_memory_wf : Memory.wf State.reset.bus.mem = true := rfl

end Sys2Proof.Machine
end

