-- ==== Sys2Proof/Laws/Bus.lean ====
section
/-!
SUPPORT. The laws of the bus: how addresses route, what a write changes, and
that writing and advancing keep the bus's invariant.
-/

namespace Sys2Proof.Machine

/-! ### Routing -/

/-- A low I/O byte that routes to plain storage routes to itself. -/
theorem routeIo_store (low k : Nat) (h : routeIo low = .store k) : k = 0xFF00 + low := by
  unfold routeIo at h
  split at h <;> first | (cases h; done) | (cases h; rfl)

/-- The ROM windows (R71). -/
theorem route_rom (a : Word) (h : a.toNat < 0x8000) : route a = .rom a.toNat := if_pos h

/-- The external-RAM window (R73). -/
theorem route_cartRam (a : Word) (h1 : 0xA000 ≤ a.toNat) (h2 : a.toNat < 0xC000) :
    route a = .cartRam (a.toNat - 0xA000) := by
  unfold route
  simp only
  split_ifs <;> first | omega | rfl

/-- The windows in which an address is its own place in plain storage: video RAM
(R72), work RAM (R74), OAM (R76), high RAM (R81). -/
theorem route_ram (a : Word)
    (h : 0x8000 ≤ a.toNat ∧ a.toNat < 0xA000 ∨ 0xC000 ≤ a.toNat ∧ a.toNat < 0xE000 ∨
      0xFE00 ≤ a.toNat ∧ a.toNat < 0xFEA0 ∨ 0xFF80 ≤ a.toNat ∧ a.toNat < 0xFFFF) : route a = .store a.toNat := by
  unfold route
  simp only
  split_ifs <;> first | omega | rfl

/-- The echo window reaches work RAM 0x2000 lower (R75). -/
theorem route_echoStore (a : Word) (h1 : 0xE000 ≤ a.toNat) (h2 : a.toNat < 0xFE00) :
    route a = .store (a.toNat - 0x2000) := by
  unfold route
  simp only
  split_ifs <;> first | omega | rfl

/-- The unusable window (R77). -/
theorem route_unusable (a : Word) (h1 : 0xFEA0 ≤ a.toNat) (h2 : a.toNat < 0xFF00) : route a = .unusable := by
  unfold route
  simp only
  split_ifs <;> first | omega | rfl

/-- An address of the I/O window goes by its low byte (R78). -/
theorem route_io (a : Word) (low : Nat) (h : a.toNat = 0xFF00 + low) (hl : low < 0x80) : route a = routeIo low := by
  have hlow : a.toNat - 0xFF00 = low := by omega
  unfold route
  simp only
  split_ifs <;> first | omega | exact congrArg routeIo hlow

/-- An address below 2^16 as a word. -/
theorem toNat_address (k : Nat) (h : k < 0x10000) : (BitVec.ofNat 16 k).toNat = k := by
  simp only [BitVec.toNat_ofNat]
  omega

/-- What the plain storage an address reaches tells of the address (R72, R74 to R76,
R79, R81). -/
theorem route_store_cases (a : Word) (k : Nat) (h : route a = .store k) :
    k = a.toNat ∧ (0x8000 ≤ k ∧ k < 0xA000 ∨ 0xC000 ≤ k ∧ k < 0xE000 ∨
        0xFE00 ≤ k ∧ k < 0xFEA0 ∨ 0xFF80 ≤ k ∧ k < 0xFFFF) ∨
      k + 0x2000 = a.toNat ∧ 0xC000 ≤ k ∧ k < 0xDE00 ∨
      k = a.toNat ∧ 0xFF00 ≤ k ∧ k < 0xFF80 ∧ routeIo (k - 0xFF00) = .store k := by
  unfold route at h
  simp only at h
  split_ifs at h
  rotate_left 4
  · have hk := routeIo_store _ _ h
    have hlow : a.toNat - 0xFF00 = k - 0xFF00 := by omega
    rw [hlow] at h
    exact .inr (.inr ⟨by omega, by omega, by omega, h⟩)
  all_goals
    injection h
    omega

/-- An address that routes to plain storage routes to a canonical address, which
routes to itself. -/
theorem route_store (a : Word) (k : Nat) (h : route a = .store k) : isStoreKey k = true := by
  have hk : k < 0x10000 := by
    have := route_store_cases a k h
    omega
  have e := toNat_address k hk
  have key : route (BitVec.ofNat 16 k) = .store k := by
    rcases route_store_cases a k h with ⟨-, h⟩ | ⟨-, h1, h2⟩ | ⟨-, h1, h2, h3⟩
    · rw [route_ram _ (by rwa [e]), e]
    · rw [route_ram _ (by omega), e]
    · rw [route_io _ (k - 0xFF00) (by omega) (by omega), h3]
  simp [isStoreKey, hk, key]

/-- An OAM address is plain storage (R76). -/
theorem isStoreKey_oam (i : Nat) (h : i < 160) : isStoreKey (0xFE00 + i) = true := by
  have e := toNat_address (0xFE00 + i) (by omega)
  exact route_store (BitVec.ofNat 16 (0xFE00 + i)) _ (by rw [route_ram _ (by omega), e])

/-- The one address a target answers for, the echo window and the unusable window
aside. -/
def homeOf (t : Target) : Nat :=
  match t with
  | .rom a => a
  | .cartRam o => 0xA000 + o
  | .store k => k
  | .unusable => 0xFEA0
  | .p1 => 0xFF00
  | .sb => 0xFF01
  | .sc => 0xFF02
  | .timer .div => 0xFF04
  | .timer .tima => 0xFF05
  | .timer .tma => 0xFF06
  | .timer .tac => 0xFF07
  | .iff => 0xFF0F
  | .ppu .lcdc => 0xFF40
  | .ppu .stat => 0xFF41
  | .ppu .scy => 0xFF42
  | .ppu .scx => 0xFF43
  | .ppu .ly => 0xFF44
  | .ppu .lyc => 0xFF45
  | .dma => 0xFF46
  | .ppu .bgp => 0xFF47
  | .ppu .obp0 => 0xFF48
  | .ppu .obp1 => 0xFF49
  | .ppu .wy => 0xFF4A
  | .ppu .wx => 0xFF4B
  | .ie => 0xFFFF

theorem homeOf_routeIo (low : Nat) : homeOf (routeIo low) = 0xFF00 + low := by
  unfold routeIo
  split <;> rfl

/-- Every address but an echo or an unusable one is the home of what it reaches. -/
theorem homeOf_route (a : Word) (he : ¬ (0xE000 ≤ a.toNat ∧ a.toNat < 0xFE00))
    (hu : ¬ (0xFEA0 ≤ a.toNat ∧ a.toNat < 0xFF00)) : homeOf (route a) = a.toNat := by
  have ha := a.isLt
  unfold route
  simp only
  split
  · rfl
  split
  · rfl
  split
  · show 0xA000 + (a.toNat - 0xA000) = a.toNat
    omega
  split
  · rfl
  split
  · omega
  split
  · rfl
  split
  · omega
  split
  · rw [homeOf_routeIo]
    omega
  split
  · rfl
  · show 0xFFFF = a.toNat
    omega

/-- An echo address reaches what the work-RAM address 0x2000 below it reaches
(R75). -/
theorem route_echo (a : Word) (h1 : 0xE000 ≤ a.toNat) (h2 : a.toNat < 0xFE00) : route a = route (a - 0x2000) := by
  have e : (a - 0x2000).toNat = a.toNat - 0x2000 := by
    rw [BitVec.toNat_sub]
    show (0x10000 - 0x2000 + a.toNat) % 0x10000 = _
    omega
  rw [route_echoStore a h1 h2, route_ram (a - 0x2000) (by omega), e]

/-- What an address reaches, from the address: a target whose home is below the echo
window or above the unusable window is reached from its home alone, or from its
echo. -/
theorem toNat_of_route {a : Word} {t : Target} (h : route a = t) :
    a.toNat = homeOf t ∨ (0xE000 ≤ a.toNat ∧ a.toNat < 0xFE00 ∧ a.toNat = homeOf t + 0x2000) ∨
      (0xFEA0 ≤ a.toNat ∧ a.toNat < 0xFF00 ∧ t = .unusable) := by
  by_cases he : 0xE000 ≤ a.toNat ∧ a.toNat < 0xFE00
  · right
    left
    have e : (a - 0x2000).toNat = a.toNat - 0x2000 := by
      rw [BitVec.toNat_sub]
      show (0x10000 - 0x2000 + a.toNat) % 0x10000 = _
      have := a.isLt
      omega
    rw [route_echo a he.1 he.2] at h
    have := homeOf_route (a - 0x2000) (by omega) (by omega)
    rw [h, e] at this
    exact ⟨he.1, he.2, by omega⟩
  · by_cases hu : 0xFEA0 ≤ a.toNat ∧ a.toNat < 0xFF00
    · right
      right
      exact ⟨hu.1, hu.2, h.symm.trans (route_unusable a hu.1 hu.2)⟩
    · left
      rw [← h, homeOf_route a he hu]

/-! ### The device addresses (R33 to R36, R80, R82) -/

theorem route_FF00 : route 0xFF00 = .p1 := route_io _ 0x00 rfl (by decide)
theorem route_FF01 : route 0xFF01 = .sb := route_io _ 0x01 rfl (by decide)
theorem route_FF02 : route 0xFF02 = .sc := route_io _ 0x02 rfl (by decide)
theorem route_FF04 : route 0xFF04 = .timer .div := route_io _ 0x04 rfl (by decide)
theorem route_FF05 : route 0xFF05 = .timer .tima := route_io _ 0x05 rfl (by decide)
theorem route_FF06 : route 0xFF06 = .timer .tma := route_io _ 0x06 rfl (by decide)
theorem route_FF07 : route 0xFF07 = .timer .tac := route_io _ 0x07 rfl (by decide)
theorem route_FF0F : route 0xFF0F = .iff := route_io _ 0x0F rfl (by decide)
theorem route_FF40 : route 0xFF40 = .ppu .lcdc := route_io _ 0x40 rfl (by decide)
theorem route_FF41 : route 0xFF41 = .ppu .stat := route_io _ 0x41 rfl (by decide)
theorem route_FF42 : route 0xFF42 = .ppu .scy := route_io _ 0x42 rfl (by decide)
theorem route_FF43 : route 0xFF43 = .ppu .scx := route_io _ 0x43 rfl (by decide)
theorem route_FF44 : route 0xFF44 = .ppu .ly := route_io _ 0x44 rfl (by decide)
theorem route_FF45 : route 0xFF45 = .ppu .lyc := route_io _ 0x45 rfl (by decide)
theorem route_FF46 : route 0xFF46 = .dma := route_io _ 0x46 rfl (by decide)
theorem route_FF47 : route 0xFF47 = .ppu .bgp := route_io _ 0x47 rfl (by decide)
theorem route_FF48 : route 0xFF48 = .ppu .obp0 := route_io _ 0x48 rfl (by decide)
theorem route_FF49 : route 0xFF49 = .ppu .obp1 := route_io _ 0x49 rfl (by decide)
theorem route_FF4A : route 0xFF4A = .ppu .wy := route_io _ 0x4A rfl (by decide)
theorem route_FF4B : route 0xFF4B = .ppu .wx := route_io _ 0x4B rfl (by decide)
theorem route_FFFF : route 0xFFFF = .ie := by decide

/-! ### Plain storage -/

@[simp] theorem Bus.load_store_same (b : Bus) (k : Nat) (v : Byte) : (b.store k v).load k = v := by
  simp [Bus.load, Bus.store]

theorem Bus.load_store_other (b : Bus) (k q : Nat) (v : Byte) (h : q ≠ k) :
    (b.store k v).load q = b.load q := by
  simp [Bus.load, Bus.store, Memory.lookup_put_other _ _ _ _ h]

/-- A store in plain storage: the bytes its canonical address answers for read
the stored byte, every other byte reads as before (R72, R74 to R76, R79, R81). -/
theorem Bus.read_store (b : Bus) (k : Nat) (v : Byte) (a : Word) :
    (b.store k v).read a = if route a = .store k then v else b.read a := by
  unfold Bus.read
  split <;> rename_i heq
  case h_3 q =>
    by_cases h : q = k
    · subst h
      simp [heq]
    · simp [heq, h, Bus.load_store_other _ _ _ _ h]
  all_goals simp [Bus.store, heq]

/-! ### The cartridge -/

@[simp] theorem Cartridge.writeRom_rom (c : Cartridge) (a : Nat) (v : Byte) : (c.writeRom a v).rom = c.rom := rfl

@[simp] theorem Cartridge.writeRam_rom (c : Cartridge) (o : Nat) (v : Byte) : (c.writeRam o v).rom = c.rom := by
  unfold Cartridge.writeRam
  split <;> rfl

/-- A control write keeps the substitution of bank 1 for bank 0 (R87, R88). -/
theorem Controller.write_inv (c : Controller) (a : Nat) (v : Byte) (h : c.Inv) : (c.write a v).Inv := by
  cases c with
  | fixed => trivial
  | extended m => trivial
  | simple m =>
    show (m.write a v).low5 ≠ 0
    have hm : m.low5 ≠ 0 := h
    unfold SimpleBanked.write
    split
    · exact hm
    split
    · simp only
      split
      · decide
      · assumption
    split <;> exact hm
  | rtc m =>
    show (m.write a v).romBank ≠ 0
    have hm : m.romBank ≠ 0 := h
    unfold RtcBanked.write
    split
    · exact hm
    split
    · simp only
      split
      · decide
      · assumption
    split
    · exact hm
    · unfold RtcBanked.writeLatch
      split <;> exact hm

theorem Controller.writeClock_inv (c : Controller) (r : Fin 5) (v : Byte) (h : c.Inv) : (c.writeClock r v).Inv := by
  cases c <;> exact h

/-- A cartridge without RAM has nothing in the external-RAM window (R85). -/
theorem Cartridge.ramTarget_noRam (c : Cartridge) (h : c.ramSize = 0) : c.ramTarget = .closed := if_pos h

/-- On a cartridge with RAM the controller decides (R85 to R89). -/
theorem Cartridge.ramTarget_ram (c : Cartridge) (h : c.ramSize ≠ 0) : c.ramTarget = c.controller.ramTarget := if_neg h

/-- A RAM bank is reached only on a cartridge that has RAM (R85). -/
theorem Cartridge.ramTarget_bank (c : Cartridge) (b : Nat) (h : c.ramTarget = .bank b) : 0 < c.ramSize := by
  refine Nat.pos_of_ne_zero fun h0 => ?_
  rw [Cartridge.ramTarget_noRam c h0] at h
  cases h

theorem Cartridge.writeRom_inv (c : Cartridge) (a : Nat) (v : Byte) (h : c.Inv) : (c.writeRom a v).Inv :=
  { h with controller := Controller.write_inv _ _ _ h.controller }

theorem Cartridge.writeRam_inv (c : Cartridge) (o : Nat) (v : Byte) (h : c.Inv) : (c.writeRam o v).Inv := by
  unfold Cartridge.writeRam
  split
  · next b hb =>
    have hpos := Cartridge.ramTarget_bank c b hb
    exact
      { h with
        ramWf := Memory.wf_put _ _ _ h.ramWf
        ramWithin := Memory.within_put _ _ _ _ h.ramWithin
          (by simp [Cartridge.ramIndex, Nat.mod_lt _ hpos]) }
  · exact { h with controller := Controller.writeClock_inv _ _ _ h.controller }
  · exact h

/-! ### Writing -/

theorem Bus.store_inv (b : Bus) (k : Nat) (v : Byte) (h : b.Inv) (hk : isStoreKey k = true) : (b.store k v).Inv :=
  { h with
    memWf := Memory.wf_put _ _ _ h.memWf
    memWithin := Memory.within_put _ _ _ _ h.memWithin hk }

theorem Bus.dmaCopy_inv (b : Bus) (v : Byte) (i count : Nat) (h : b.Inv) (hi : i + count ≤ 160) :
    (b.dmaCopy v i count).Inv := by
  induction count generalizing b i with
  | zero => exact h
  | succ n ih => exact ih _ _ (Bus.store_inv _ _ _ h (isStoreKey_oam i (by omega))) (by omega)

theorem Ppu.write_inv (p : Ppu) (r : PpuReg) (v : Byte) (h : p.Inv) : (p.write r v).Inv := by
  cases r <;> exact ⟨h.line, h.dot⟩

theorem Bus.setDma_inv (b : Bus) (v : Byte) (h : b.Inv) : (b.setDma v).Inv :=
  ⟨h.memWf, h.memWithin, h.cart, h.ppu⟩

theorem Bus.writeDma_inv (b : Bus) (v : Byte) (h : b.Inv) : (b.writeDma v).Inv := by
  rw [Bus.writeDma]
  exact Bus.setDma_inv _ v (Bus.dmaCopy_inv b v 0 160 h (by omega))

/-- Every bus write keeps the bus's invariant. -/
theorem Bus.write_inv (b : Bus) (a : Word) (v : Byte) (h : b.Inv) : (b.write a v).Inv := by
  unfold Bus.write
  split
  · exact { h with cart := Cartridge.writeRom_inv _ _ _ h.cart }
  · exact { h with cart := Cartridge.writeRam_inv _ _ _ h.cart }
  · next k hk => exact Bus.store_inv _ _ _ h (route_store _ _ hk)
  case h_10 => exact { h with ppu := Ppu.write_inv _ _ _ h.ppu }
  case h_11 => exact Bus.writeDma_inv b v h
  all_goals exact { h with }

theorem writeAll_inv (ws : List (Word × Byte)) (b : Bus) (h : b.Inv) : (writeAll b ws).Inv := by
  induction ws generalizing b with
  | nil => exact h
  | cons w rest ih => exact ih _ (Bus.write_inv _ _ _ h)

@[simp] theorem Bus.setDma_cart (b : Bus) (v : Byte) : (b.setDma v).cart = b.cart := rfl

theorem Bus.writeDma_cart (b : Bus) (v : Byte) : (b.writeDma v).cart = (b.dmaCopy v 0 160).cart := by
  rw [Bus.writeDma, Bus.setDma_cart]

theorem Bus.dmaCopy_cart (b : Bus) (v : Byte) (i count : Nat) : (b.dmaCopy v i count).cart = b.cart := by
  induction count generalizing b i with
  | zero => rfl
  | succ n ih => exact ih _ _

/-- No bus write changes the ROM (R71). -/
theorem Bus.write_rom (b : Bus) (a : Word) (v : Byte) : (b.write a v).cart.rom = b.cart.rom := by
  unfold Bus.write
  split
  · rfl
  · exact Cartridge.writeRam_rom _ _ _
  case h_11 => rw [Bus.writeDma_cart, Bus.dmaCopy_cart]
  all_goals rfl

theorem writeAll_rom (ws : List (Word × Byte)) (b : Bus) : (writeAll b ws).cart.rom = b.cart.rom := by
  induction ws generalizing b with
  | nil => rfl
  | cons w rest ih => exact (ih _).trans (Bus.write_rom _ _ _)

/-- An external-RAM window that reaches nothing reads 0xFF and ignores writes (R85,
D21). -/
theorem Bus.closed_window (b : Bus) (a : Word) (v : Byte) (h1 : 0xA000 ≤ a.toNat) (h2 : a.toNat < 0xC000)
    (hc : b.cart.ramTarget = .closed) : b.read a = 0xFF ∧ b.write a v = b := by
  have hr := route_cartRam a h1 h2
  constructor
  · simp only [Bus.read, hr, Cartridge.readRam, hc, Config.disabledRamRead]
  · simp only [Bus.write, hr, Cartridge.writeRam, hc]

/-- An external-RAM window that reaches a RAM bank is storage of the chip (R85). -/
theorem Bus.bank_window (b : Bus) (a : Word) (v : Byte) (k : Nat) (h1 : 0xA000 ≤ a.toNat) (h2 : a.toNat < 0xC000)
    (hk : b.cart.ramTarget = .bank k) :
    b.read a = b.cart.ramByte (b.cart.ramIndex k (a.toNat - 0xA000)) ∧ (b.write a v).read a = v := by
  have hr := route_cartRam a h1 h2
  constructor
  · simp only [Bus.read, hr, Cartridge.readRam, hk]
  · have hk' (m : Memory) : Cartridge.ramTarget { b.cart with ram := m } = .bank k := hk
    simp only [Bus.read, Bus.write, hr, Cartridge.readRam, Cartridge.writeRam, hk, hk', Cartridge.ramByte,
      Cartridge.ramIndex, Memory.lookup_put_same, Option.getD_some]

/-! ### Advancing -/

theorem Ppu.nextPosition_inv (line dot : Nat) (hl : line < Config.linesPerFrame) :
    (Ppu.nextPosition line dot).1 < Config.linesPerFrame ∧ (Ppu.nextPosition line dot).2 < Config.dotsPerLine := by
  unfold Ppu.nextPosition
  split
  · exact ⟨hl, by assumption⟩
  split
  · next hlt => exact ⟨hlt, by show 0 < 456; omega⟩
  · exact ⟨by decide, by decide⟩

theorem Ppu.tick_inv (p : Ppu) (h : p.Inv) : p.tick.Inv :=
  ⟨(Ppu.nextPosition_inv p.line p.dot h.line).1, (Ppu.nextPosition_inv p.line p.dot h.line).2⟩

theorem Bus.timerAdvance_same (b : Bus) (c : Nat) :
    (b.timerAdvance c).mem = b.mem ∧ (b.timerAdvance c).cart = b.cart ∧ (b.timerAdvance c).ppu = b.ppu := by
  induction c generalizing b with
  | zero => exact ⟨rfl, rfl, rfl⟩
  | succ n ih => exact ih _

theorem Bus.ppuAdvance_same (b : Bus) (c : Nat) :
    (b.ppuAdvance c).mem = b.mem ∧ (b.ppuAdvance c).cart = b.cart := by
  induction c generalizing b with
  | zero => exact ⟨rfl, rfl⟩
  | succ n ih => exact ih _

theorem Bus.ppuAdvance_ppu_inv (b : Bus) (c : Nat) (h : b.ppu.Inv) : (b.ppuAdvance c).ppu.Inv := by
  induction c generalizing b with
  | zero => exact h
  | succ n ih => exact ih _ (Ppu.tick_inv _ h)

/-- The peripherals keep the bus's invariant. -/
theorem Bus.advance_inv (b : Bus) (c : Nat) (h : b.Inv) : (b.advance c).Inv := by
  obtain ⟨h1, h2, h3⟩ := Bus.timerAdvance_same b c
  obtain ⟨h4, h5⟩ := Bus.ppuAdvance_same (b.timerAdvance c) c
  have hp : ((b.timerAdvance c).ppuAdvance c).ppu.Inv :=
    Bus.ppuAdvance_ppu_inv _ _ (by rw [h3]; exact h.ppu)
  exact
    { memWf := by rw [Bus.advance, h4, h1]; exact h.memWf
      memWithin := by rw [Bus.advance, h4, h1]; exact h.memWithin
      cart := by rw [Bus.advance, h5, h2]; exact h.cart
      ppu := hp }

/-- The peripherals leave the memories and the cartridge alone (R97). -/
theorem Bus.advance_same (b : Bus) (c : Nat) :
    (b.advance c).mem = b.mem ∧ (b.advance c).cart = b.cart := by
  obtain ⟨h1, h2, _⟩ := Bus.timerAdvance_same b c
  obtain ⟨h4, h5⟩ := Bus.ppuAdvance_same (b.timerAdvance c) c
  exact ⟨by rw [Bus.advance, h4, h1], by rw [Bus.advance, h5, h2]⟩

end Sys2Proof.Machine
end

