-- ==== Sys2Proof/Laws/Ops.lean ====
section
/-!
SUPPORT. One lemma per shared operation of the meanings, saying once everything
it does: that it answers a next state, what it writes, what it stores, its cost,
and that nothing else changes.
-/

namespace Sys2Proof.Machine

/-- What a run of an operation from `s` to `t` does: it changes only `parts`,
takes `n` cycles, and makes the bus writes `ws`, in order. -/
structure Does (parts : List Part) (n : Nat) (ws : List (Word × Byte)) (s t : State) : Prop where
  frame : OnlyChanges parts s t
  took : Took n s t
  stores : t.bus = writeAll s.bus ws

/-! ### Registers after an update -/

theorem State.setReg_get (s : State) (r q : Reg) (v : Byte) :
    (s.setReg r v).cpu.get q = if q = r then v else s.cpu.get q := by
  split
  · next h => rw [h, State.setReg_get_same]
  · next h => exact State.setReg_get_other _ _ _ _ h

theorem State.setAcc_get (s : State) (r : Computed) (q : Reg) :
    (s.setAcc r).cpu.get q = if q = .a then r.value else s.cpu.get q := by
  cases q <;> rfl

theorem State.setHL_get_other (s : State) (v : Word) (q : Reg) (h1 : q ≠ .h) (h2 : q ≠ .l) :
    (s.setHL v).cpu.get q = s.cpu.get q := by
  cases q <;> first | rfl | exact absurd rfl h1 | exact absurd rfl h2

theorem Cpu.setRP_get_other (s : Cpu) (p : RP) (v : Word) (q : Reg) (h : Part.reg q ∉ partsOfRP p) :
    (s.setRP p v).get q = s.get q := by
  cases p <;> cases q <;> first | rfl | (exfalso; revert h; decide)

theorem Cpu.setRP_sp_other (s : Cpu) (p : RP) (v : Word) (h : Part.sp ∉ partsOfRP p) :
    (s.setRP p v).sp = s.sp := by
  cases p <;> first | rfl | (exfalso; revert h; decide)

theorem Cpu.setRP2_get_other (s : Cpu) (p : RP2) (v : Word) (q : Reg) (h : Part.reg q ∉ partsOfRP2 p) :
    (s.setRP2 p v).get q = s.get q := by
  cases p <;> cases q <;> first | rfl | (exfalso; revert h; decide)

theorem Cpu.setRP2_flags_other (s : Cpu) (p : RP2) (v : Word) (h : Part.flags ∉ partsOfRP2 p) :
    (s.setRP2 p v).flags = s.flags := by
  cases p <;> first | rfl | (exfalso; revert h; decide)

/-- The pair `AF` reads back with the four flags in place (R26). -/
theorem unpackF_packF (f : Flags) : unpackF (packF f) = f := by
  obtain ⟨z, n, h, c⟩ := f
  cases z <;> cases n <;> cases h <;> cases c <;> decide

/-- The low four bits of `F` are 0 (R26). -/
theorem packF_low (f : Flags) (i : Nat) (h : i < 4) : (packF f).getLsbD i = false := by
  obtain ⟨z, n, hf, c⟩ := f
  have hi : i = 0 ∨ i = 1 ∨ i = 2 ∨ i = 3 := by omega
  rcases hi with rfl | rfl | rfl | rfl <;> cases z <;> cases n <;> cases hf <;> cases c <;> decide

/-! ### Operands of R113 -/

theorem State.writeR8_flags (s : State) (x : R8) (v : Byte) : (s.writeR8 x v).cpu.flags = s.cpu.flags := by
  cases x with
  | reg r => exact State.setReg_flags _ _ _
  | atHL => rfl

theorem State.writeR8_cycleCount (s : State) (x : R8) (v : Byte) :
    (s.writeR8 x v).cpu.cycleCount = s.cpu.cycleCount := by
  cases x with
  | reg r => exact State.setReg_cycleCount _ _ _
  | atHL => rfl

/-- The bus writes of writing an operand. -/
def operandStores (x : R8) (v : Byte) (s : State) : List (Word × Byte) :=
  match x with
  | .reg _ => []
  | .atHL => [(s.cpu.hl, v)]

/-- Writing an operand: it becomes the value, and nothing else changes. -/
theorem State.writeR8_does (s : State) (x : R8) (v : Byte) :
    OperandBecomes x v s (s.writeR8 x v) ∧ Does (partsOfR8 x) 0 (operandStores x v s) s (s.writeR8 x v) := by
  cases x with
  | reg r =>
    refine ⟨State.setReg_get_same s r v, ?_, State.setReg_cycleCount s r v, rfl⟩
    intro p hp
    cases p with
    | reg q =>
      simp only [partsOfR8, List.mem_singleton, Part.reg.injEq] at hp
      exact State.setReg_get_other _ _ _ _ hp
    | _ => simp [Part.Same, State.writeR8]
  | atHL =>
    refine ⟨rfl, ?_, rfl, rfl⟩
    intro p hp
    cases p with
    | bus => simp [partsOfR8] at hp
    | _ => rfl

end Sys2Proof.Machine
end

