-- ==== Sys2Proof/Laws/Exec.lean ====
section
/-!
SUPPORT. One lemma per shared meaning: it answers a next state, and that state is
described in full (what it writes, what it stores, its cycles, and that nothing
else changes).
-/

namespace Sys2Proof.Machine

/-- A list of parts with the parts of an operand in it. -/
theorem not_mem_cons_iff (p q : Part) (l : List Part) : p ∉ q :: l ↔ p ≠ q ∧ p ∉ l := by
  simp

/-! ### 8-bit loads -/

theorem ldRegReg_does (dst r : Reg) (s : State) :
    ∃ t, ldRegReg dst r s = .next t ∧ t.cpu.get dst = s.cpu.get r ∧ Does [.reg dst] 4 [] s t := by
  refine ⟨_, rfl, by simp, ?_, by simp [Took], by simp [writeAll]⟩
  intro p hp
  cases p <;> simp_all [Part.Same, State.setReg_get]

theorem ldRegN_does (dst : Reg) (n : Byte) (s : State) :
    ∃ t, ldRegN dst n s = .next t ∧ t.cpu.get dst = n ∧ Does [.reg dst] 8 [] s t := by
  refine ⟨_, rfl, by simp, ?_, by simp [Took], by simp [writeAll]⟩
  intro p hp
  cases p <;> simp_all [Part.Same, State.setReg_get]

theorem ldRegAtHL_does (dst : Reg) (s : State) :
    ∃ t, ldRegAtHL dst s = .next t ∧ t.cpu.get dst = s.bus.read s.cpu.hl ∧ Does [.reg dst] 8 [] s t := by
  refine ⟨_, rfl, by simp, ?_, by simp [Took], by simp [writeAll]⟩
  intro p hp
  cases p <;> simp_all [Part.Same, State.setReg_get]

theorem loadA_does (a : Word) (cost : Nat) (s : State) :
    ∃ t, loadA a cost s = .next t ∧ t.cpu.a = s.bus.read a ∧ Does [.reg .a] cost [] s t := by
  refine ⟨_, rfl, State.setReg_get_same s .a _, ?_, by simp [Took], by simp [writeAll]⟩
  intro p hp
  cases p <;> simp_all [Part.Same, State.setReg_get]

/-- A meaning that is one store and its cost. -/
theorem store_does (a : Word) (v : Byte) (cost : Nat) (s : State) :
    Does [.bus] cost [(a, v)] s ((s.memWrite a v).cycles cost) := by
  refine ⟨?_, by simp [Took], by simp [writeAll]⟩
  intro p hp
  cases p <;> simp_all [Part.Same]

theorem ldAtHLReg_does (r : Reg) (s : State) :
    ∃ t, ldAtHLReg r s = .next t ∧ Does [.bus] 8 [(s.cpu.hl, s.cpu.get r)] s t :=
  ⟨_, rfl, store_does _ _ _ _⟩

theorem storeA_does (a : Word) (cost : Nat) (s : State) :
    ∃ t, storeA a cost s = .next t ∧ Does [.bus] cost [(a, s.cpu.a)] s t :=
  ⟨_, rfl, store_does _ _ _ _⟩

theorem storeAMoveHL_does (step : Word) (s : State) :
    ∃ t, storeAMoveHL step s = .next t ∧ t.cpu.hl = s.cpu.hl + step ∧
      Does [.reg .h, .reg .l, .bus] 8 [(s.cpu.hl, s.cpu.a)] s t := by
  refine ⟨_, rfl, State.setHL_hl (s.memWrite s.cpu.hl s.cpu.a) _, ?_, by simp [Took], by simp [writeAll]⟩
  intro p hp
  cases p <;> simp_all [Part.Same, State.setHL_get_other]

theorem loadAMoveHL_does (step : Word) (s : State) :
    ∃ t, loadAMoveHL step s = .next t ∧ t.cpu.hl = s.cpu.hl + step ∧ t.cpu.a = s.bus.read s.cpu.hl ∧
      Does [.reg .a, .reg .h, .reg .l] 8 [] s t := by
  refine ⟨_, rfl, State.setHL_hl (s.setReg .a (s.memRead s.cpu.hl)) _, rfl, ?_, by simp [Took], by simp [writeAll]⟩
  intro p hp
  cases p <;> simp_all [Part.Same, State.setHL_get_other, State.setReg_get]

/-! ### 16-bit loads and the stack -/

/-- Writing a pair and its cost. -/
theorem setRP_does (p : RP) (v : Word) (cost : Nat) (s : State) :
    Does (partsOfRP p) cost [] s (State.cycles { s with cpu := s.cpu.setRP p v } cost) := by
  refine ⟨?_, by simp [Took], by simp [writeAll]⟩
  intro q hq
  cases q with
  | reg r => exact Cpu.setRP_get_other s.cpu p v r hq
  | sp => exact Cpu.setRP_sp_other s.cpu p v hq
  | _ => cases p <;> rfl

theorem ldRPN_does (p : RP) (nn : Word) (s : State) :
    ∃ t, ldRPN p nn s = .next t ∧ t.cpu.getRP p = nn ∧ Does (partsOfRP p) 12 [] s t :=
  ⟨_, rfl, Cpu.getRP_setRP s.cpu p nn, setRP_does p nn 12 s⟩

theorem storeSP_does (nn : Word) (s : State) :
    ∃ t, storeSP nn s = .next t ∧
      Does [.bus] 20 [(nn, loByte s.cpu.sp), (nn + 1, hiByte s.cpu.sp)] s t := by
  refine ⟨_, rfl, ?_, by simp [Took], by simp [writeAll]⟩
  intro p hp
  cases p <;> simp_all [Part.Same]

theorem pushRP2_does (p : RP2) (s : State) :
    ∃ t, pushRP2 p s = .next t ∧ t.cpu.sp = s.cpu.sp - 2 ∧
      Does [.sp, .bus] 16 (pushStores s (s.cpu.getRP2 p)) s t := by
  refine ⟨_, rfl, by simp, ?_, by simp [Took], by simp [writeAll, pushStores]⟩
  intro q hq
  cases q <;> simp_all [Part.Same]


/-- The two bytes `Pop16` reads (R11). -/
theorem popValue_eq (s : State) :
    s.popValue = pairOf (s.bus.read (s.cpu.sp + 1)) (s.bus.read s.cpu.sp) := rfl

theorem popRP2_does (p : RP2) (s : State) :
    ∃ t, popRP2 p s = .next t ∧ (p ≠ .af → t.cpu.getRP2 p = s.popValue) ∧
      (p = .af → t.cpu.a = hiByte s.popValue ∧ t.cpu.flags = unpackF (loByte s.popValue)) ∧
      t.cpu.sp = s.cpu.sp + 2 ∧ Does (.sp :: partsOfRP2 p) 12 [] s t := by
  refine ⟨_, rfl, ?_, ?_, by simp, ?_, by simp [Took], by simp [writeAll]⟩
  · intro h
    cases p <;> first | exact pairOf_hi_lo s.popValue | exact absurd rfl h
  · intro h
    subst h
    exact ⟨rfl, rfl⟩
  · intro q hq
    have hq' : q ∉ partsOfRP2 p := fun h => hq (List.mem_cons_of_mem _ h)
    cases q with
    | reg r => exact (Cpu.setRP2_get_other _ p _ r hq').trans (State.popped_get s r)
    | flags => exact (Cpu.setRP2_flags_other _ p _ hq').trans rfl
    | sp => exact absurd (List.mem_cons_self ..) hq
    | _ => cases p <;> rfl

/-! ### 8-bit arithmetic and logic -/

/-- Writing `A` and the flags, and the cost. -/
theorem setAcc_does (r : Computed) (cost : Nat) (s : State) :
    Does [.reg .a, .flags] cost [] s ((s.setAcc r).cycles cost) := by
  refine ⟨?_, by simp [Took], by simp [writeAll]⟩
  intro q hq
  cases q <;> simp_all [Part.Same, State.setAcc_get]

theorem aluR8_does (op : AluOp) (x : R8) (s : State) :
    ∃ t, aluR8 op x s = .next t ∧
      t.cpu.a = (aluApply op s.cpu.a (s.readR8 x) s.cpu.flags).value ∧
      t.cpu.flags = (aluApply op s.cpu.a (s.readR8 x) s.cpu.flags).flags ∧
      Does [.reg .a, .flags] (r8Cost x 4 8) [] s t :=
  ⟨_, rfl, rfl, rfl, setAcc_does _ _ _⟩

theorem aluN_does (op : AluOp) (n : Byte) (s : State) :
    ∃ t, aluN op n s = .next t ∧ t.cpu.a = (aluApply op s.cpu.a n s.cpu.flags).value ∧
      t.cpu.flags = (aluApply op s.cpu.a n s.cpu.flags).flags ∧ Does [.reg .a, .flags] 8 [] s t :=
  ⟨_, rfl, rfl, rfl, setAcc_does _ _ _⟩

theorem accOp_does (f : Byte → Flags → Computed) (s : State) :
    ∃ t, accOp f s = .next t ∧ t.cpu.a = (f s.cpu.a s.cpu.flags).value ∧
      t.cpu.flags = (f s.cpu.a s.cpu.flags).flags ∧ Does [.reg .a, .flags] 4 [] s t :=
  ⟨_, rfl, rfl, rfl, setAcc_does _ _ _⟩

theorem rotateAcc_does (op : RotOp) (s : State) :
    ∃ t, rotateAcc op s = .next t ∧ t.cpu.a = (rotAccApply op s.cpu.a s.cpu.flags).value ∧
      t.cpu.flags = (rotAccApply op s.cpu.a s.cpu.flags).flags ∧ Does [.reg .a, .flags] 4 [] s t :=
  ⟨_, rfl, rfl, rfl, setAcc_does _ _ _⟩

theorem flagOp_does (f : Flags → Flags) (s : State) :
    ∃ t, flagOp f s = .next t ∧ t.cpu.flags = f s.cpu.flags ∧ Does [.flags] 4 [] s t := by
  refine ⟨_, rfl, rfl, ?_, by simp [Took], by simp [writeAll]⟩
  intro q hq
  cases q <;> simp_all [Part.Same]

/-- Writing an operand and the cost. -/
theorem writeR8_cycles_does (x : R8) (v : Byte) (cost : Nat) (s : State) :
    OperandBecomes x v s ((s.writeR8 x v).cycles cost) ∧
      Does (partsOfR8 x) cost (operandStores x v s) s ((s.writeR8 x v).cycles cost) := by
  obtain ⟨h1, h2, h3, h4⟩ := State.writeR8_does s x v
  refine ⟨?_, ?_, ?_, h4⟩
  · cases x <;> exact h1
  · intro q hq
    have := h2 q hq
    cases q <;> exact this
  · simp only [Took] at h3 ⊢
    simp [h3]

/-- Writing an operand, then the flags, and the cost. -/
theorem writeR8_setFlags_does (x : R8) (v : Byte) (f : Flags) (cost : Nat) (s : State) :
    OperandBecomes x v s (((s.writeR8 x v).setFlags f).cycles cost) ∧
      (((s.writeR8 x v).setFlags f).cycles cost).cpu.flags = f ∧
      Does (.flags :: partsOfR8 x) cost (operandStores x v s) s (((s.writeR8 x v).setFlags f).cycles cost) := by
  obtain ⟨h1, h2, h3, h4⟩ := State.writeR8_does s x v
  refine ⟨?_, rfl, ?_, ?_, h4⟩
  · cases x <;> exact h1
  · intro q hq
    have hq' : q ∉ partsOfR8 x := fun h => hq (List.mem_cons_of_mem _ h)
    have := h2 q hq'
    cases q with
    | flags => exact absurd (List.mem_cons_self ..) hq
    | _ => exact this
  · simp only [Took] at h3 ⊢
    simp [h3]

theorem incR8_does (x : R8) (s : State) :
    ∃ t, incR8 x s = .next t ∧ OperandBecomes x (s.readR8 x + 1) s t ∧
      t.cpu.flags = (incByte (s.readR8 x) s.cpu.flags).flags ∧
      Does (.flags :: partsOfR8 x) (r8Cost x 4 12) (operandStores x (s.readR8 x + 1) s) s t :=
  ⟨_, rfl, writeR8_setFlags_does x (s.readR8 x + 1) _ _ s⟩

theorem decR8_does (x : R8) (s : State) :
    ∃ t, decR8 x s = .next t ∧ OperandBecomes x (s.readR8 x - 1) s t ∧
      t.cpu.flags = (decByte (s.readR8 x) s.cpu.flags).flags ∧
      Does (.flags :: partsOfR8 x) (r8Cost x 4 12) (operandStores x (s.readR8 x - 1) s) s t :=
  ⟨_, rfl, writeR8_setFlags_does x (s.readR8 x - 1) _ _ s⟩

/-! ### 16-bit arithmetic -/

theorem addHL_does (p : RP) (s : State) :
    ∃ t, addHL p s = .next t ∧ t.cpu.hl = addWords s.cpu.hl (s.cpu.getRP p) ∧
      t.cpu.flags = addWordsFlags s.cpu.hl (s.cpu.getRP p) s.cpu.flags ∧
      Does [.reg .h, .reg .l, .flags] 8 [] s t := by
  refine ⟨_, rfl, State.setHL_hl s _, rfl, ?_, by simp [Took], by simp [writeAll]⟩
  intro q hq
  cases q <;> simp_all [Part.Same, State.setHL_get_other]

theorem stepRP_does (p : RP) (step : Word) (s : State) :
    ∃ t, stepRP p step s = .next t ∧ t.cpu.getRP p = s.cpu.getRP p + step ∧ Does (partsOfRP p) 8 [] s t :=
  ⟨_, rfl, Cpu.getRP_setRP s.cpu p _, setRP_does p _ 8 s⟩

/-! ### The extended table -/

theorem rotateR8_does (op : RotOp) (x : R8) (s : State) :
    ∃ t, rotateR8 op x s = .next t ∧
      OperandBecomes x (rotShift op (s.readR8 x) s.cpu.flags.c).value s t ∧
      t.cpu.flags = (rotApply op (s.readR8 x) s.cpu.flags).flags ∧
      Does (.flags :: partsOfR8 x) (r8Cost x 8 16)
        (operandStores x (rotShift op (s.readR8 x) s.cpu.flags.c).value s) s t :=
  ⟨_, rfl, writeR8_setFlags_does x (rotShift op (s.readR8 x) s.cpu.flags.c).value _ _ s⟩

theorem testBit_does (b : Index3) (x : R8) (s : State) :
    ∃ t, testBit b x s = .next t ∧ t.cpu.flags = bitFlags (s.readR8 x) b s.cpu.flags ∧
      Does [.flags] (r8Cost x 8 12) [] s t := by
  refine ⟨_, rfl, rfl, ?_, by simp [Took], by simp [writeAll]⟩
  intro q hq
  cases q <;> simp_all [Part.Same]

theorem resetBit_does (b : Index3) (x : R8) (s : State) :
    ∃ t, resetBit b x s = .next t ∧ OperandBecomes x (clearBit (s.readR8 x) b) s t ∧
      Does (partsOfR8 x) (r8Cost x 8 16) (operandStores x (clearBit (s.readR8 x) b) s) s t :=
  ⟨_, rfl, writeR8_cycles_does x _ _ s⟩

theorem raiseBit_does (b : Index3) (x : R8) (s : State) :
    ∃ t, raiseBit b x s = .next t ∧ OperandBecomes x (setBit (s.readR8 x) b) s t ∧
      Does (partsOfR8 x) (r8Cost x 8 16) (operandStores x (setBit (s.readR8 x) b) s) s t :=
  ⟨_, rfl, writeR8_cycles_does x _ _ s⟩

/-! ### Control transfer -/

/-- A meaning that only costs cycles. -/
theorem cycles_does (cost : Nat) (s : State) : Does [] cost [] s (s.cycles cost) := by
  refine ⟨?_, by simp [Took], by simp [writeAll]⟩
  intro q hq
  cases q <;> simp_all [Part.Same]

theorem jump_does (target : Word) (cost : Nat) (s : State) :
    ∃ t, jump target cost s = .next t ∧ t.cpu.pc = target ∧ Does [.pc] cost [] s t := by
  refine ⟨_, rfl, rfl, ?_, by simp [Took], by simp [writeAll]⟩
  intro q hq
  cases q <;> simp_all [Part.Same]

theorem jumpIf_does (cc : Cond) (target : Word) (notTaken taken : Nat) (s : State) :
    ∃ t, jumpIf cc target notTaken taken s = .next t ∧
      t.cpu.pc = (if condHolds cc s.cpu.flags then target else s.cpu.pc) ∧
      Does [.pc] (if condHolds cc s.cpu.flags then taken else notTaken) [] s t := by
  unfold jumpIf
  split
  · exact jump_does target taken s
  · obtain ⟨h1, h2, h3⟩ := cycles_does notTaken s
    exact ⟨_, rfl, rfl, fun q _ => h1 q (List.not_mem_nil), h2, h3⟩

theorem call_does (target : Word) (cost : Nat) (s : State) :
    ∃ t, call target cost s = .next t ∧ t.cpu.pc = target ∧ t.cpu.sp = s.cpu.sp - 2 ∧
      Does [.pc, .sp, .bus] cost (pushStores s s.cpu.pc) s t := by
  refine ⟨_, rfl, rfl, by simp, ?_, by simp [Took], by simp [writeAll, pushStores]⟩
  intro q hq
  cases q <;> simp_all [Part.Same]

theorem callIf_does (cc : Cond) (nn : Word) (s : State) :
    (condHolds cc s.cpu.flags = true → ∃ t, callIf cc nn s = .next t ∧ t.cpu.pc = nn ∧
      t.cpu.sp = s.cpu.sp - 2 ∧ Does [.pc, .sp, .bus] 24 (pushStores s s.cpu.pc) s t) ∧
    (condHolds cc s.cpu.flags = false → ∃ t, callIf cc nn s = .next t ∧ Does [] 12 [] s t) := by
  constructor
  · intro h
    simp only [callIf, h, if_true]
    exact call_does nn 24 s
  · intro h
    simp only [callIf, h]
    exact ⟨_, rfl, cycles_does 12 s⟩

theorem ret_does (cost : Nat) (s : State) :
    ∃ t, ret cost s = .next t ∧ t.cpu.pc = s.popValue ∧ t.cpu.sp = s.cpu.sp + 2 ∧
      Does [.pc, .sp] cost [] s t := by
  refine ⟨_, rfl, rfl, rfl, ?_, by simp [Took], by simp [writeAll]⟩
  intro q hq
  cases q <;> simp_all [Part.Same]

theorem retIf_does (cc : Cond) (s : State) :
    (condHolds cc s.cpu.flags = true → ∃ t, retIf cc s = .next t ∧ t.cpu.pc = s.popValue ∧
      t.cpu.sp = s.cpu.sp + 2 ∧ Does [.pc, .sp] 20 [] s t) ∧
    (condHolds cc s.cpu.flags = false → ∃ t, retIf cc s = .next t ∧ Does [] 8 [] s t) := by
  constructor
  · intro h
    simp only [retIf, h, if_true]
    exact ret_does 20 s
  · intro h
    simp only [retIf, h]
    exact ⟨_, rfl, cycles_does 8 s⟩

/-- Returning from an interrupt (R269). -/
theorem reti_does (s : State) :
    ∃ t, execReti s = .next t ∧ t.cpu.pc = s.popValue ∧ t.cpu.sp = s.cpu.sp + 2 ∧ t.cpu.ime = true ∧
      Does [.pc, .sp, .ime] 16 [] s t := by
  refine ⟨_, rfl, rfl, rfl, rfl, ?_, by simp [Took, State.returnFromInterrupt], rfl⟩
  intro q hq
  cases q <;> simp_all [Part.Same, State.returnFromInterrupt]

/-- Taking an interrupt (R304). -/
theorem dispatch_does (s : State) (src : Source) :
    (s.dispatch src).cpu.pc = src.vector ∧ (s.dispatch src).cpu.sp = s.cpu.sp - 2 ∧
      (s.dispatch src).cpu.ime = false ∧ (s.dispatch src).cpu.halted = false ∧
      (s.dispatch src).bus = writeAll (s.bus.acknowledge src) (pushStores s s.cpu.pc) ∧
      OnlyChanges [.pc, .sp, .ime, .halted, .bus] s (s.dispatch src) ∧ Took 0 s (s.dispatch src) := by
  refine ⟨rfl, ?_, rfl, rfl, ?_, ?_, rfl⟩
  · show s.cpu.sp - 1 - 1 = s.cpu.sp - 2
    bv_omega
  · simp [State.dispatch, writeAll, pushStores]
  · intro q hq
    cases q <;> simp_all [Part.Same, State.dispatch]

end Sys2Proof.Machine
end

