-- ==== Sys2Proof/Laws/PerInstr.lean ====
section
/-!
SUPPORT. The statements per instruction: the length of an encoding (R110).
-/

/-- R110: an instruction is one, two or three bytes long, and its first byte
alone decides how many, whatever the bytes after it. -/
def Sys2Proof.Laws.EncodedLength.Statement (i : Sys2Proof.Instr) : Prop :=
  1 ≤ i.size ∧ i.size ≤ 3 ∧
    ∀ b1 b2, (Sys2Proof.decodeWindow ((Sys2Proof.encode i).headD 0) b1 b2).2 = i.size

namespace Sys2Proof.Laws.EncodedLength

/-- The statement from the first byte and the length. -/
theorem of_first (op : Byte) (k : Nat) {i : Instr} (hop : (encode i).headD 0 = op) (hk : i.size = k)
    (hr : 1 ≤ k ∧ k ≤ 3) (hd : ∀ b1 b2, (decodeWindow op b1 b2).2 = k) : Statement i :=
  ⟨hk ▸ hr.1, hk ▸ hr.2, fun b1 b2 => by rw [hop, hd b1 b2, hk]⟩

theorem nop : Statement (.nop) := of_first 0x00 1 rfl rfl (by decide) fun _ _ => rfl
theorem ldBCNn (nn : Word) : Statement (.ldBCNn nn) := of_first 0x01 3 rfl rfl (by decide) fun _ _ => rfl
theorem ldAtBCA : Statement (.ldAtBCA) := of_first 0x02 1 rfl rfl (by decide) fun _ _ => rfl
theorem incBC : Statement (.incBC) := of_first 0x03 1 rfl rfl (by decide) fun _ _ => rfl
theorem incB : Statement (.incB) := of_first 0x04 1 rfl rfl (by decide) fun _ _ => rfl
theorem decB : Statement (.decB) := of_first 0x05 1 rfl rfl (by decide) fun _ _ => rfl
theorem ldBN (n : Byte) : Statement (.ldBN n) := of_first 0x06 2 rfl rfl (by decide) fun _ _ => rfl
theorem rlca : Statement (.rlca) := of_first 0x07 1 rfl rfl (by decide) fun _ _ => rfl
theorem ldAtNnSP (nn : Word) : Statement (.ldAtNnSP nn) := of_first 0x08 3 rfl rfl (by decide) fun _ _ => rfl
theorem addHLBC : Statement (.addHLBC) := of_first 0x09 1 rfl rfl (by decide) fun _ _ => rfl
theorem ldAAtBC : Statement (.ldAAtBC) := of_first 0x0A 1 rfl rfl (by decide) fun _ _ => rfl
theorem decBC : Statement (.decBC) := of_first 0x0B 1 rfl rfl (by decide) fun _ _ => rfl
theorem incC : Statement (.incC) := of_first 0x0C 1 rfl rfl (by decide) fun _ _ => rfl
theorem decC : Statement (.decC) := of_first 0x0D 1 rfl rfl (by decide) fun _ _ => rfl
theorem ldCN (n : Byte) : Statement (.ldCN n) := of_first 0x0E 2 rfl rfl (by decide) fun _ _ => rfl
theorem rrca : Statement (.rrca) := of_first 0x0F 1 rfl rfl (by decide) fun _ _ => rfl
theorem stop (n : Byte) : Statement (.stop n) := of_first 0x10 2 rfl rfl (by decide) fun _ _ => rfl
theorem ldDENn (nn : Word) : Statement (.ldDENn nn) := of_first 0x11 3 rfl rfl (by decide) fun _ _ => rfl
theorem ldAtDEA : Statement (.ldAtDEA) := of_first 0x12 1 rfl rfl (by decide) fun _ _ => rfl
theorem incDE : Statement (.incDE) := of_first 0x13 1 rfl rfl (by decide) fun _ _ => rfl
theorem incD : Statement (.incD) := of_first 0x14 1 rfl rfl (by decide) fun _ _ => rfl
theorem decD : Statement (.decD) := of_first 0x15 1 rfl rfl (by decide) fun _ _ => rfl
theorem ldDN (n : Byte) : Statement (.ldDN n) := of_first 0x16 2 rfl rfl (by decide) fun _ _ => rfl
theorem rla : Statement (.rla) := of_first 0x17 1 rfl rfl (by decide) fun _ _ => rfl
theorem jrE (e : Byte) : Statement (.jrE e) := of_first 0x18 2 rfl rfl (by decide) fun _ _ => rfl
theorem addHLDE : Statement (.addHLDE) := of_first 0x19 1 rfl rfl (by decide) fun _ _ => rfl
theorem ldAAtDE : Statement (.ldAAtDE) := of_first 0x1A 1 rfl rfl (by decide) fun _ _ => rfl
theorem decDE : Statement (.decDE) := of_first 0x1B 1 rfl rfl (by decide) fun _ _ => rfl
theorem incE : Statement (.incE) := of_first 0x1C 1 rfl rfl (by decide) fun _ _ => rfl
theorem decE : Statement (.decE) := of_first 0x1D 1 rfl rfl (by decide) fun _ _ => rfl
theorem ldEN (n : Byte) : Statement (.ldEN n) := of_first 0x1E 2 rfl rfl (by decide) fun _ _ => rfl
theorem rra : Statement (.rra) := of_first 0x1F 1 rfl rfl (by decide) fun _ _ => rfl
theorem jrNZE (e : Byte) : Statement (.jrNZE e) := of_first 0x20 2 rfl rfl (by decide) fun _ _ => rfl
theorem ldHLNn (nn : Word) : Statement (.ldHLNn nn) := of_first 0x21 3 rfl rfl (by decide) fun _ _ => rfl
theorem ldAtHLIncA : Statement (.ldAtHLIncA) := of_first 0x22 1 rfl rfl (by decide) fun _ _ => rfl
theorem incHL : Statement (.incHL) := of_first 0x23 1 rfl rfl (by decide) fun _ _ => rfl
theorem incH : Statement (.incH) := of_first 0x24 1 rfl rfl (by decide) fun _ _ => rfl
theorem decH : Statement (.decH) := of_first 0x25 1 rfl rfl (by decide) fun _ _ => rfl
theorem ldHN (n : Byte) : Statement (.ldHN n) := of_first 0x26 2 rfl rfl (by decide) fun _ _ => rfl
theorem daa : Statement (.daa) := of_first 0x27 1 rfl rfl (by decide) fun _ _ => rfl
theorem jrZE (e : Byte) : Statement (.jrZE e) := of_first 0x28 2 rfl rfl (by decide) fun _ _ => rfl
theorem addHLHL : Statement (.addHLHL) := of_first 0x29 1 rfl rfl (by decide) fun _ _ => rfl
theorem ldAAtHLInc : Statement (.ldAAtHLInc) := of_first 0x2A 1 rfl rfl (by decide) fun _ _ => rfl
theorem decHL : Statement (.decHL) := of_first 0x2B 1 rfl rfl (by decide) fun _ _ => rfl
theorem incL : Statement (.incL) := of_first 0x2C 1 rfl rfl (by decide) fun _ _ => rfl
theorem decL : Statement (.decL) := of_first 0x2D 1 rfl rfl (by decide) fun _ _ => rfl
theorem ldLN (n : Byte) : Statement (.ldLN n) := of_first 0x2E 2 rfl rfl (by decide) fun _ _ => rfl
theorem cpl : Statement (.cpl) := of_first 0x2F 1 rfl rfl (by decide) fun _ _ => rfl
theorem jrNCE (e : Byte) : Statement (.jrNCE e) := of_first 0x30 2 rfl rfl (by decide) fun _ _ => rfl
theorem ldSPNn (nn : Word) : Statement (.ldSPNn nn) := of_first 0x31 3 rfl rfl (by decide) fun _ _ => rfl
theorem ldAtHLDecA : Statement (.ldAtHLDecA) := of_first 0x32 1 rfl rfl (by decide) fun _ _ => rfl
theorem incSP : Statement (.incSP) := of_first 0x33 1 rfl rfl (by decide) fun _ _ => rfl
theorem incAtHL : Statement (.incAtHL) := of_first 0x34 1 rfl rfl (by decide) fun _ _ => rfl
theorem decAtHL : Statement (.decAtHL) := of_first 0x35 1 rfl rfl (by decide) fun _ _ => rfl
theorem ldAtHLN (n : Byte) : Statement (.ldAtHLN n) := of_first 0x36 2 rfl rfl (by decide) fun _ _ => rfl
theorem scf : Statement (.scf) := of_first 0x37 1 rfl rfl (by decide) fun _ _ => rfl
theorem jrCE (e : Byte) : Statement (.jrCE e) := of_first 0x38 2 rfl rfl (by decide) fun _ _ => rfl
theorem addHLSP : Statement (.addHLSP) := of_first 0x39 1 rfl rfl (by decide) fun _ _ => rfl
theorem ldAAtHLDec : Statement (.ldAAtHLDec) := of_first 0x3A 1 rfl rfl (by decide) fun _ _ => rfl
theorem decSP : Statement (.decSP) := of_first 0x3B 1 rfl rfl (by decide) fun _ _ => rfl
theorem incA : Statement (.incA) := of_first 0x3C 1 rfl rfl (by decide) fun _ _ => rfl
theorem decA : Statement (.decA) := of_first 0x3D 1 rfl rfl (by decide) fun _ _ => rfl
theorem ldAN (n : Byte) : Statement (.ldAN n) := of_first 0x3E 2 rfl rfl (by decide) fun _ _ => rfl
theorem ccf : Statement (.ccf) := of_first 0x3F 1 rfl rfl (by decide) fun _ _ => rfl
theorem ldBB : Statement (.ldBB) := of_first 0x40 1 rfl rfl (by decide) fun _ _ => rfl
theorem ldBC : Statement (.ldBC) := of_first 0x41 1 rfl rfl (by decide) fun _ _ => rfl
theorem ldBD : Statement (.ldBD) := of_first 0x42 1 rfl rfl (by decide) fun _ _ => rfl
theorem ldBE : Statement (.ldBE) := of_first 0x43 1 rfl rfl (by decide) fun _ _ => rfl
theorem ldBH : Statement (.ldBH) := of_first 0x44 1 rfl rfl (by decide) fun _ _ => rfl
theorem ldBL : Statement (.ldBL) := of_first 0x45 1 rfl rfl (by decide) fun _ _ => rfl
theorem ldBAtHL : Statement (.ldBAtHL) := of_first 0x46 1 rfl rfl (by decide) fun _ _ => rfl
theorem ldBA : Statement (.ldBA) := of_first 0x47 1 rfl rfl (by decide) fun _ _ => rfl
theorem ldCB : Statement (.ldCB) := of_first 0x48 1 rfl rfl (by decide) fun _ _ => rfl
theorem ldCC : Statement (.ldCC) := of_first 0x49 1 rfl rfl (by decide) fun _ _ => rfl
theorem ldCD : Statement (.ldCD) := of_first 0x4A 1 rfl rfl (by decide) fun _ _ => rfl
theorem ldCE : Statement (.ldCE) := of_first 0x4B 1 rfl rfl (by decide) fun _ _ => rfl
theorem ldCH : Statement (.ldCH) := of_first 0x4C 1 rfl rfl (by decide) fun _ _ => rfl
theorem ldCL : Statement (.ldCL) := of_first 0x4D 1 rfl rfl (by decide) fun _ _ => rfl
theorem ldCAtHL : Statement (.ldCAtHL) := of_first 0x4E 1 rfl rfl (by decide) fun _ _ => rfl
theorem ldCA : Statement (.ldCA) := of_first 0x4F 1 rfl rfl (by decide) fun _ _ => rfl
theorem ldDB : Statement (.ldDB) := of_first 0x50 1 rfl rfl (by decide) fun _ _ => rfl
theorem ldDC : Statement (.ldDC) := of_first 0x51 1 rfl rfl (by decide) fun _ _ => rfl
theorem ldDD : Statement (.ldDD) := of_first 0x52 1 rfl rfl (by decide) fun _ _ => rfl
theorem ldDE : Statement (.ldDE) := of_first 0x53 1 rfl rfl (by decide) fun _ _ => rfl
theorem ldDH : Statement (.ldDH) := of_first 0x54 1 rfl rfl (by decide) fun _ _ => rfl
theorem ldDL : Statement (.ldDL) := of_first 0x55 1 rfl rfl (by decide) fun _ _ => rfl
theorem ldDAtHL : Statement (.ldDAtHL) := of_first 0x56 1 rfl rfl (by decide) fun _ _ => rfl
theorem ldDA : Statement (.ldDA) := of_first 0x57 1 rfl rfl (by decide) fun _ _ => rfl
theorem ldEB : Statement (.ldEB) := of_first 0x58 1 rfl rfl (by decide) fun _ _ => rfl
theorem ldEC : Statement (.ldEC) := of_first 0x59 1 rfl rfl (by decide) fun _ _ => rfl
theorem ldED : Statement (.ldED) := of_first 0x5A 1 rfl rfl (by decide) fun _ _ => rfl
theorem ldEE : Statement (.ldEE) := of_first 0x5B 1 rfl rfl (by decide) fun _ _ => rfl
theorem ldEH : Statement (.ldEH) := of_first 0x5C 1 rfl rfl (by decide) fun _ _ => rfl
theorem ldEL : Statement (.ldEL) := of_first 0x5D 1 rfl rfl (by decide) fun _ _ => rfl
theorem ldEAtHL : Statement (.ldEAtHL) := of_first 0x5E 1 rfl rfl (by decide) fun _ _ => rfl
theorem ldEA : Statement (.ldEA) := of_first 0x5F 1 rfl rfl (by decide) fun _ _ => rfl
theorem ldHB : Statement (.ldHB) := of_first 0x60 1 rfl rfl (by decide) fun _ _ => rfl
theorem ldHC : Statement (.ldHC) := of_first 0x61 1 rfl rfl (by decide) fun _ _ => rfl
theorem ldHD : Statement (.ldHD) := of_first 0x62 1 rfl rfl (by decide) fun _ _ => rfl
theorem ldHE : Statement (.ldHE) := of_first 0x63 1 rfl rfl (by decide) fun _ _ => rfl
theorem ldHH : Statement (.ldHH) := of_first 0x64 1 rfl rfl (by decide) fun _ _ => rfl
theorem ldHL : Statement (.ldHL) := of_first 0x65 1 rfl rfl (by decide) fun _ _ => rfl
theorem ldHAtHL : Statement (.ldHAtHL) := of_first 0x66 1 rfl rfl (by decide) fun _ _ => rfl
theorem ldHA : Statement (.ldHA) := of_first 0x67 1 rfl rfl (by decide) fun _ _ => rfl
theorem ldLB : Statement (.ldLB) := of_first 0x68 1 rfl rfl (by decide) fun _ _ => rfl
theorem ldLC : Statement (.ldLC) := of_first 0x69 1 rfl rfl (by decide) fun _ _ => rfl
theorem ldLD : Statement (.ldLD) := of_first 0x6A 1 rfl rfl (by decide) fun _ _ => rfl
theorem ldLE : Statement (.ldLE) := of_first 0x6B 1 rfl rfl (by decide) fun _ _ => rfl
theorem ldLH : Statement (.ldLH) := of_first 0x6C 1 rfl rfl (by decide) fun _ _ => rfl
theorem ldLL : Statement (.ldLL) := of_first 0x6D 1 rfl rfl (by decide) fun _ _ => rfl
theorem ldLAtHL : Statement (.ldLAtHL) := of_first 0x6E 1 rfl rfl (by decide) fun _ _ => rfl
theorem ldLA : Statement (.ldLA) := of_first 0x6F 1 rfl rfl (by decide) fun _ _ => rfl
theorem ldAtHLB : Statement (.ldAtHLB) := of_first 0x70 1 rfl rfl (by decide) fun _ _ => rfl
theorem ldAtHLC : Statement (.ldAtHLC) := of_first 0x71 1 rfl rfl (by decide) fun _ _ => rfl
theorem ldAtHLD : Statement (.ldAtHLD) := of_first 0x72 1 rfl rfl (by decide) fun _ _ => rfl
theorem ldAtHLE : Statement (.ldAtHLE) := of_first 0x73 1 rfl rfl (by decide) fun _ _ => rfl
theorem ldAtHLH : Statement (.ldAtHLH) := of_first 0x74 1 rfl rfl (by decide) fun _ _ => rfl
theorem ldAtHLL : Statement (.ldAtHLL) := of_first 0x75 1 rfl rfl (by decide) fun _ _ => rfl
theorem halt : Statement (.halt) := of_first 0x76 1 rfl rfl (by decide) fun _ _ => rfl
theorem ldAtHLA : Statement (.ldAtHLA) := of_first 0x77 1 rfl rfl (by decide) fun _ _ => rfl
theorem ldAB : Statement (.ldAB) := of_first 0x78 1 rfl rfl (by decide) fun _ _ => rfl
theorem ldAC : Statement (.ldAC) := of_first 0x79 1 rfl rfl (by decide) fun _ _ => rfl
theorem ldAD : Statement (.ldAD) := of_first 0x7A 1 rfl rfl (by decide) fun _ _ => rfl
theorem ldAE : Statement (.ldAE) := of_first 0x7B 1 rfl rfl (by decide) fun _ _ => rfl
theorem ldAH : Statement (.ldAH) := of_first 0x7C 1 rfl rfl (by decide) fun _ _ => rfl
theorem ldAL : Statement (.ldAL) := of_first 0x7D 1 rfl rfl (by decide) fun _ _ => rfl
theorem ldAAtHL : Statement (.ldAAtHL) := of_first 0x7E 1 rfl rfl (by decide) fun _ _ => rfl
theorem ldAA : Statement (.ldAA) := of_first 0x7F 1 rfl rfl (by decide) fun _ _ => rfl
theorem addAB : Statement (.addAB) := of_first 0x80 1 rfl rfl (by decide) fun _ _ => rfl
theorem addAC : Statement (.addAC) := of_first 0x81 1 rfl rfl (by decide) fun _ _ => rfl
theorem addAD : Statement (.addAD) := of_first 0x82 1 rfl rfl (by decide) fun _ _ => rfl
theorem addAE : Statement (.addAE) := of_first 0x83 1 rfl rfl (by decide) fun _ _ => rfl
theorem addAH : Statement (.addAH) := of_first 0x84 1 rfl rfl (by decide) fun _ _ => rfl
theorem addAL : Statement (.addAL) := of_first 0x85 1 rfl rfl (by decide) fun _ _ => rfl
theorem addAAtHL : Statement (.addAAtHL) := of_first 0x86 1 rfl rfl (by decide) fun _ _ => rfl
theorem addAA : Statement (.addAA) := of_first 0x87 1 rfl rfl (by decide) fun _ _ => rfl
theorem adcAB : Statement (.adcAB) := of_first 0x88 1 rfl rfl (by decide) fun _ _ => rfl
theorem adcAC : Statement (.adcAC) := of_first 0x89 1 rfl rfl (by decide) fun _ _ => rfl
theorem adcAD : Statement (.adcAD) := of_first 0x8A 1 rfl rfl (by decide) fun _ _ => rfl
theorem adcAE : Statement (.adcAE) := of_first 0x8B 1 rfl rfl (by decide) fun _ _ => rfl
theorem adcAH : Statement (.adcAH) := of_first 0x8C 1 rfl rfl (by decide) fun _ _ => rfl
theorem adcAL : Statement (.adcAL) := of_first 0x8D 1 rfl rfl (by decide) fun _ _ => rfl
theorem adcAAtHL : Statement (.adcAAtHL) := of_first 0x8E 1 rfl rfl (by decide) fun _ _ => rfl
theorem adcAA : Statement (.adcAA) := of_first 0x8F 1 rfl rfl (by decide) fun _ _ => rfl
theorem subB : Statement (.subB) := of_first 0x90 1 rfl rfl (by decide) fun _ _ => rfl
theorem subC : Statement (.subC) := of_first 0x91 1 rfl rfl (by decide) fun _ _ => rfl
theorem subD : Statement (.subD) := of_first 0x92 1 rfl rfl (by decide) fun _ _ => rfl
theorem subE : Statement (.subE) := of_first 0x93 1 rfl rfl (by decide) fun _ _ => rfl
theorem subH : Statement (.subH) := of_first 0x94 1 rfl rfl (by decide) fun _ _ => rfl
theorem subL : Statement (.subL) := of_first 0x95 1 rfl rfl (by decide) fun _ _ => rfl
theorem subAtHL : Statement (.subAtHL) := of_first 0x96 1 rfl rfl (by decide) fun _ _ => rfl
theorem subA : Statement (.subA) := of_first 0x97 1 rfl rfl (by decide) fun _ _ => rfl
theorem sbcAB : Statement (.sbcAB) := of_first 0x98 1 rfl rfl (by decide) fun _ _ => rfl
theorem sbcAC : Statement (.sbcAC) := of_first 0x99 1 rfl rfl (by decide) fun _ _ => rfl
theorem sbcAD : Statement (.sbcAD) := of_first 0x9A 1 rfl rfl (by decide) fun _ _ => rfl
theorem sbcAE : Statement (.sbcAE) := of_first 0x9B 1 rfl rfl (by decide) fun _ _ => rfl
theorem sbcAH : Statement (.sbcAH) := of_first 0x9C 1 rfl rfl (by decide) fun _ _ => rfl
theorem sbcAL : Statement (.sbcAL) := of_first 0x9D 1 rfl rfl (by decide) fun _ _ => rfl
theorem sbcAAtHL : Statement (.sbcAAtHL) := of_first 0x9E 1 rfl rfl (by decide) fun _ _ => rfl
theorem sbcAA : Statement (.sbcAA) := of_first 0x9F 1 rfl rfl (by decide) fun _ _ => rfl
theorem andB : Statement (.andB) := of_first 0xA0 1 rfl rfl (by decide) fun _ _ => rfl
theorem andC : Statement (.andC) := of_first 0xA1 1 rfl rfl (by decide) fun _ _ => rfl
theorem andD : Statement (.andD) := of_first 0xA2 1 rfl rfl (by decide) fun _ _ => rfl
theorem andE : Statement (.andE) := of_first 0xA3 1 rfl rfl (by decide) fun _ _ => rfl
theorem andH : Statement (.andH) := of_first 0xA4 1 rfl rfl (by decide) fun _ _ => rfl
theorem andL : Statement (.andL) := of_first 0xA5 1 rfl rfl (by decide) fun _ _ => rfl
theorem andAtHL : Statement (.andAtHL) := of_first 0xA6 1 rfl rfl (by decide) fun _ _ => rfl
theorem andA : Statement (.andA) := of_first 0xA7 1 rfl rfl (by decide) fun _ _ => rfl
theorem xorB : Statement (.xorB) := of_first 0xA8 1 rfl rfl (by decide) fun _ _ => rfl
theorem xorC : Statement (.xorC) := of_first 0xA9 1 rfl rfl (by decide) fun _ _ => rfl
theorem xorD : Statement (.xorD) := of_first 0xAA 1 rfl rfl (by decide) fun _ _ => rfl
theorem xorE : Statement (.xorE) := of_first 0xAB 1 rfl rfl (by decide) fun _ _ => rfl
theorem xorH : Statement (.xorH) := of_first 0xAC 1 rfl rfl (by decide) fun _ _ => rfl
theorem xorL : Statement (.xorL) := of_first 0xAD 1 rfl rfl (by decide) fun _ _ => rfl
theorem xorAtHL : Statement (.xorAtHL) := of_first 0xAE 1 rfl rfl (by decide) fun _ _ => rfl
theorem xorA : Statement (.xorA) := of_first 0xAF 1 rfl rfl (by decide) fun _ _ => rfl
theorem orB : Statement (.orB) := of_first 0xB0 1 rfl rfl (by decide) fun _ _ => rfl
theorem orC : Statement (.orC) := of_first 0xB1 1 rfl rfl (by decide) fun _ _ => rfl
theorem orD : Statement (.orD) := of_first 0xB2 1 rfl rfl (by decide) fun _ _ => rfl
theorem orE : Statement (.orE) := of_first 0xB3 1 rfl rfl (by decide) fun _ _ => rfl
theorem orH : Statement (.orH) := of_first 0xB4 1 rfl rfl (by decide) fun _ _ => rfl
theorem orL : Statement (.orL) := of_first 0xB5 1 rfl rfl (by decide) fun _ _ => rfl
theorem orAtHL : Statement (.orAtHL) := of_first 0xB6 1 rfl rfl (by decide) fun _ _ => rfl
theorem orA : Statement (.orA) := of_first 0xB7 1 rfl rfl (by decide) fun _ _ => rfl
theorem cpB : Statement (.cpB) := of_first 0xB8 1 rfl rfl (by decide) fun _ _ => rfl
theorem cpC : Statement (.cpC) := of_first 0xB9 1 rfl rfl (by decide) fun _ _ => rfl
theorem cpD : Statement (.cpD) := of_first 0xBA 1 rfl rfl (by decide) fun _ _ => rfl
theorem cpE : Statement (.cpE) := of_first 0xBB 1 rfl rfl (by decide) fun _ _ => rfl
theorem cpH : Statement (.cpH) := of_first 0xBC 1 rfl rfl (by decide) fun _ _ => rfl
theorem cpL : Statement (.cpL) := of_first 0xBD 1 rfl rfl (by decide) fun _ _ => rfl
theorem cpAtHL : Statement (.cpAtHL) := of_first 0xBE 1 rfl rfl (by decide) fun _ _ => rfl
theorem cpA : Statement (.cpA) := of_first 0xBF 1 rfl rfl (by decide) fun _ _ => rfl
theorem retNZ : Statement (.retNZ) := of_first 0xC0 1 rfl rfl (by decide) fun _ _ => rfl
theorem popBC : Statement (.popBC) := of_first 0xC1 1 rfl rfl (by decide) fun _ _ => rfl
theorem jpNZNn (nn : Word) : Statement (.jpNZNn nn) := of_first 0xC2 3 rfl rfl (by decide) fun _ _ => rfl
theorem jpNn (nn : Word) : Statement (.jpNn nn) := of_first 0xC3 3 rfl rfl (by decide) fun _ _ => rfl
theorem callNZNn (nn : Word) : Statement (.callNZNn nn) := of_first 0xC4 3 rfl rfl (by decide) fun _ _ => rfl
theorem pushBC : Statement (.pushBC) := of_first 0xC5 1 rfl rfl (by decide) fun _ _ => rfl
theorem addAN (n : Byte) : Statement (.addAN n) := of_first 0xC6 2 rfl rfl (by decide) fun _ _ => rfl
theorem rst00 : Statement (.rst00) := of_first 0xC7 1 rfl rfl (by decide) fun _ _ => rfl
theorem retZ : Statement (.retZ) := of_first 0xC8 1 rfl rfl (by decide) fun _ _ => rfl
theorem ret : Statement (.ret) := of_first 0xC9 1 rfl rfl (by decide) fun _ _ => rfl
theorem jpZNn (nn : Word) : Statement (.jpZNn nn) := of_first 0xCA 3 rfl rfl (by decide) fun _ _ => rfl
theorem prefixCB (op2 : Byte) : Statement (.prefixCB op2) := of_first 0xCB 2 rfl rfl (by decide) fun _ _ => rfl
theorem callZNn (nn : Word) : Statement (.callZNn nn) := of_first 0xCC 3 rfl rfl (by decide) fun _ _ => rfl
theorem callNn (nn : Word) : Statement (.callNn nn) := of_first 0xCD 3 rfl rfl (by decide) fun _ _ => rfl
theorem adcAN (n : Byte) : Statement (.adcAN n) := of_first 0xCE 2 rfl rfl (by decide) fun _ _ => rfl
theorem rst08 : Statement (.rst08) := of_first 0xCF 1 rfl rfl (by decide) fun _ _ => rfl
theorem retNC : Statement (.retNC) := of_first 0xD0 1 rfl rfl (by decide) fun _ _ => rfl
theorem popDE : Statement (.popDE) := of_first 0xD1 1 rfl rfl (by decide) fun _ _ => rfl
theorem jpNCNn (nn : Word) : Statement (.jpNCNn nn) := of_first 0xD2 3 rfl rfl (by decide) fun _ _ => rfl
theorem callNCNn (nn : Word) : Statement (.callNCNn nn) := of_first 0xD4 3 rfl rfl (by decide) fun _ _ => rfl
theorem pushDE : Statement (.pushDE) := of_first 0xD5 1 rfl rfl (by decide) fun _ _ => rfl
theorem subN (n : Byte) : Statement (.subN n) := of_first 0xD6 2 rfl rfl (by decide) fun _ _ => rfl
theorem rst10 : Statement (.rst10) := of_first 0xD7 1 rfl rfl (by decide) fun _ _ => rfl
theorem retC : Statement (.retC) := of_first 0xD8 1 rfl rfl (by decide) fun _ _ => rfl
theorem reti : Statement (.reti) := of_first 0xD9 1 rfl rfl (by decide) fun _ _ => rfl
theorem jpCNn (nn : Word) : Statement (.jpCNn nn) := of_first 0xDA 3 rfl rfl (by decide) fun _ _ => rfl
theorem callCNn (nn : Word) : Statement (.callCNn nn) := of_first 0xDC 3 rfl rfl (by decide) fun _ _ => rfl
theorem sbcAN (n : Byte) : Statement (.sbcAN n) := of_first 0xDE 2 rfl rfl (by decide) fun _ _ => rfl
theorem rst18 : Statement (.rst18) := of_first 0xDF 1 rfl rfl (by decide) fun _ _ => rfl
theorem ldhAtNA (n : Byte) : Statement (.ldhAtNA n) := of_first 0xE0 2 rfl rfl (by decide) fun _ _ => rfl
theorem popHL : Statement (.popHL) := of_first 0xE1 1 rfl rfl (by decide) fun _ _ => rfl
theorem ldhAtCA : Statement (.ldhAtCA) := of_first 0xE2 1 rfl rfl (by decide) fun _ _ => rfl
theorem pushHL : Statement (.pushHL) := of_first 0xE5 1 rfl rfl (by decide) fun _ _ => rfl
theorem andN (n : Byte) : Statement (.andN n) := of_first 0xE6 2 rfl rfl (by decide) fun _ _ => rfl
theorem rst20 : Statement (.rst20) := of_first 0xE7 1 rfl rfl (by decide) fun _ _ => rfl
theorem addSPE (e : Byte) : Statement (.addSPE e) := of_first 0xE8 2 rfl rfl (by decide) fun _ _ => rfl
theorem jpHL : Statement (.jpHL) := of_first 0xE9 1 rfl rfl (by decide) fun _ _ => rfl
theorem ldAtNnA (nn : Word) : Statement (.ldAtNnA nn) := of_first 0xEA 3 rfl rfl (by decide) fun _ _ => rfl
theorem xorN (n : Byte) : Statement (.xorN n) := of_first 0xEE 2 rfl rfl (by decide) fun _ _ => rfl
theorem rst28 : Statement (.rst28) := of_first 0xEF 1 rfl rfl (by decide) fun _ _ => rfl
theorem ldhAAtN (n : Byte) : Statement (.ldhAAtN n) := of_first 0xF0 2 rfl rfl (by decide) fun _ _ => rfl
theorem popAF : Statement (.popAF) := of_first 0xF1 1 rfl rfl (by decide) fun _ _ => rfl
theorem ldhAAtC : Statement (.ldhAAtC) := of_first 0xF2 1 rfl rfl (by decide) fun _ _ => rfl
theorem di : Statement (.di) := of_first 0xF3 1 rfl rfl (by decide) fun _ _ => rfl
theorem pushAF : Statement (.pushAF) := of_first 0xF5 1 rfl rfl (by decide) fun _ _ => rfl
theorem orN (n : Byte) : Statement (.orN n) := of_first 0xF6 2 rfl rfl (by decide) fun _ _ => rfl
theorem rst30 : Statement (.rst30) := of_first 0xF7 1 rfl rfl (by decide) fun _ _ => rfl
theorem ldHLSPE (e : Byte) : Statement (.ldHLSPE e) := of_first 0xF8 2 rfl rfl (by decide) fun _ _ => rfl
theorem ldSPHL : Statement (.ldSPHL) := of_first 0xF9 1 rfl rfl (by decide) fun _ _ => rfl
theorem ldAAtNn (nn : Word) : Statement (.ldAAtNn nn) := of_first 0xFA 3 rfl rfl (by decide) fun _ _ => rfl
theorem ei : Statement (.ei) := of_first 0xFB 1 rfl rfl (by decide) fun _ _ => rfl
theorem cpN (n : Byte) : Statement (.cpN n) := of_first 0xFE 2 rfl rfl (by decide) fun _ _ => rfl
theorem rst38 : Statement (.rst38) := of_first 0xFF 1 rfl rfl (by decide) fun _ _ => rfl
theorem rlcB : Statement (.rlcB) := of_first 0xCB 2 rfl rfl (by decide) fun _ _ => rfl
theorem rlcC : Statement (.rlcC) := of_first 0xCB 2 rfl rfl (by decide) fun _ _ => rfl
theorem rlcD : Statement (.rlcD) := of_first 0xCB 2 rfl rfl (by decide) fun _ _ => rfl
theorem rlcE : Statement (.rlcE) := of_first 0xCB 2 rfl rfl (by decide) fun _ _ => rfl
theorem rlcH : Statement (.rlcH) := of_first 0xCB 2 rfl rfl (by decide) fun _ _ => rfl
theorem rlcL : Statement (.rlcL) := of_first 0xCB 2 rfl rfl (by decide) fun _ _ => rfl
theorem rlcAtHL : Statement (.rlcAtHL) := of_first 0xCB 2 rfl rfl (by decide) fun _ _ => rfl
theorem rlcA : Statement (.rlcA) := of_first 0xCB 2 rfl rfl (by decide) fun _ _ => rfl
theorem rrcB : Statement (.rrcB) := of_first 0xCB 2 rfl rfl (by decide) fun _ _ => rfl
theorem rrcC : Statement (.rrcC) := of_first 0xCB 2 rfl rfl (by decide) fun _ _ => rfl
theorem rrcD : Statement (.rrcD) := of_first 0xCB 2 rfl rfl (by decide) fun _ _ => rfl
theorem rrcE : Statement (.rrcE) := of_first 0xCB 2 rfl rfl (by decide) fun _ _ => rfl
theorem rrcH : Statement (.rrcH) := of_first 0xCB 2 rfl rfl (by decide) fun _ _ => rfl
theorem rrcL : Statement (.rrcL) := of_first 0xCB 2 rfl rfl (by decide) fun _ _ => rfl
theorem rrcAtHL : Statement (.rrcAtHL) := of_first 0xCB 2 rfl rfl (by decide) fun _ _ => rfl
theorem rrcA : Statement (.rrcA) := of_first 0xCB 2 rfl rfl (by decide) fun _ _ => rfl
theorem rlB : Statement (.rlB) := of_first 0xCB 2 rfl rfl (by decide) fun _ _ => rfl
theorem rlC : Statement (.rlC) := of_first 0xCB 2 rfl rfl (by decide) fun _ _ => rfl
theorem rlD : Statement (.rlD) := of_first 0xCB 2 rfl rfl (by decide) fun _ _ => rfl
theorem rlE : Statement (.rlE) := of_first 0xCB 2 rfl rfl (by decide) fun _ _ => rfl
theorem rlH : Statement (.rlH) := of_first 0xCB 2 rfl rfl (by decide) fun _ _ => rfl
theorem rlL : Statement (.rlL) := of_first 0xCB 2 rfl rfl (by decide) fun _ _ => rfl
theorem rlAtHL : Statement (.rlAtHL) := of_first 0xCB 2 rfl rfl (by decide) fun _ _ => rfl
theorem rlA : Statement (.rlA) := of_first 0xCB 2 rfl rfl (by decide) fun _ _ => rfl
theorem rrB : Statement (.rrB) := of_first 0xCB 2 rfl rfl (by decide) fun _ _ => rfl
theorem rrC : Statement (.rrC) := of_first 0xCB 2 rfl rfl (by decide) fun _ _ => rfl
theorem rrD : Statement (.rrD) := of_first 0xCB 2 rfl rfl (by decide) fun _ _ => rfl
theorem rrE : Statement (.rrE) := of_first 0xCB 2 rfl rfl (by decide) fun _ _ => rfl
theorem rrH : Statement (.rrH) := of_first 0xCB 2 rfl rfl (by decide) fun _ _ => rfl
theorem rrL : Statement (.rrL) := of_first 0xCB 2 rfl rfl (by decide) fun _ _ => rfl
theorem rrAtHL : Statement (.rrAtHL) := of_first 0xCB 2 rfl rfl (by decide) fun _ _ => rfl
theorem rrA : Statement (.rrA) := of_first 0xCB 2 rfl rfl (by decide) fun _ _ => rfl
theorem slaB : Statement (.slaB) := of_first 0xCB 2 rfl rfl (by decide) fun _ _ => rfl
theorem slaC : Statement (.slaC) := of_first 0xCB 2 rfl rfl (by decide) fun _ _ => rfl
theorem slaD : Statement (.slaD) := of_first 0xCB 2 rfl rfl (by decide) fun _ _ => rfl
theorem slaE : Statement (.slaE) := of_first 0xCB 2 rfl rfl (by decide) fun _ _ => rfl
theorem slaH : Statement (.slaH) := of_first 0xCB 2 rfl rfl (by decide) fun _ _ => rfl
theorem slaL : Statement (.slaL) := of_first 0xCB 2 rfl rfl (by decide) fun _ _ => rfl
theorem slaAtHL : Statement (.slaAtHL) := of_first 0xCB 2 rfl rfl (by decide) fun _ _ => rfl
theorem slaA : Statement (.slaA) := of_first 0xCB 2 rfl rfl (by decide) fun _ _ => rfl
theorem sraB : Statement (.sraB) := of_first 0xCB 2 rfl rfl (by decide) fun _ _ => rfl
theorem sraC : Statement (.sraC) := of_first 0xCB 2 rfl rfl (by decide) fun _ _ => rfl
theorem sraD : Statement (.sraD) := of_first 0xCB 2 rfl rfl (by decide) fun _ _ => rfl
theorem sraE : Statement (.sraE) := of_first 0xCB 2 rfl rfl (by decide) fun _ _ => rfl
theorem sraH : Statement (.sraH) := of_first 0xCB 2 rfl rfl (by decide) fun _ _ => rfl
theorem sraL : Statement (.sraL) := of_first 0xCB 2 rfl rfl (by decide) fun _ _ => rfl
theorem sraAtHL : Statement (.sraAtHL) := of_first 0xCB 2 rfl rfl (by decide) fun _ _ => rfl
theorem sraA : Statement (.sraA) := of_first 0xCB 2 rfl rfl (by decide) fun _ _ => rfl
theorem swapB : Statement (.swapB) := of_first 0xCB 2 rfl rfl (by decide) fun _ _ => rfl
theorem swapC : Statement (.swapC) := of_first 0xCB 2 rfl rfl (by decide) fun _ _ => rfl
theorem swapD : Statement (.swapD) := of_first 0xCB 2 rfl rfl (by decide) fun _ _ => rfl
theorem swapE : Statement (.swapE) := of_first 0xCB 2 rfl rfl (by decide) fun _ _ => rfl
theorem swapH : Statement (.swapH) := of_first 0xCB 2 rfl rfl (by decide) fun _ _ => rfl
theorem swapL : Statement (.swapL) := of_first 0xCB 2 rfl rfl (by decide) fun _ _ => rfl
theorem swapAtHL : Statement (.swapAtHL) := of_first 0xCB 2 rfl rfl (by decide) fun _ _ => rfl
theorem swapA : Statement (.swapA) := of_first 0xCB 2 rfl rfl (by decide) fun _ _ => rfl
theorem srlB : Statement (.srlB) := of_first 0xCB 2 rfl rfl (by decide) fun _ _ => rfl
theorem srlC : Statement (.srlC) := of_first 0xCB 2 rfl rfl (by decide) fun _ _ => rfl
theorem srlD : Statement (.srlD) := of_first 0xCB 2 rfl rfl (by decide) fun _ _ => rfl
theorem srlE : Statement (.srlE) := of_first 0xCB 2 rfl rfl (by decide) fun _ _ => rfl
theorem srlH : Statement (.srlH) := of_first 0xCB 2 rfl rfl (by decide) fun _ _ => rfl
theorem srlL : Statement (.srlL) := of_first 0xCB 2 rfl rfl (by decide) fun _ _ => rfl
theorem srlAtHL : Statement (.srlAtHL) := of_first 0xCB 2 rfl rfl (by decide) fun _ _ => rfl
theorem srlA : Statement (.srlA) := of_first 0xCB 2 rfl rfl (by decide) fun _ _ => rfl
theorem bit0B : Statement (.bit0B) := of_first 0xCB 2 rfl rfl (by decide) fun _ _ => rfl
theorem bit0C : Statement (.bit0C) := of_first 0xCB 2 rfl rfl (by decide) fun _ _ => rfl
theorem bit0D : Statement (.bit0D) := of_first 0xCB 2 rfl rfl (by decide) fun _ _ => rfl
theorem bit0E : Statement (.bit0E) := of_first 0xCB 2 rfl rfl (by decide) fun _ _ => rfl
theorem bit0H : Statement (.bit0H) := of_first 0xCB 2 rfl rfl (by decide) fun _ _ => rfl
theorem bit0L : Statement (.bit0L) := of_first 0xCB 2 rfl rfl (by decide) fun _ _ => rfl
theorem bit0AtHL : Statement (.bit0AtHL) := of_first 0xCB 2 rfl rfl (by decide) fun _ _ => rfl
theorem bit0A : Statement (.bit0A) := of_first 0xCB 2 rfl rfl (by decide) fun _ _ => rfl
theorem bit1B : Statement (.bit1B) := of_first 0xCB 2 rfl rfl (by decide) fun _ _ => rfl
theorem bit1C : Statement (.bit1C) := of_first 0xCB 2 rfl rfl (by decide) fun _ _ => rfl
theorem bit1D : Statement (.bit1D) := of_first 0xCB 2 rfl rfl (by decide) fun _ _ => rfl
theorem bit1E : Statement (.bit1E) := of_first 0xCB 2 rfl rfl (by decide) fun _ _ => rfl
theorem bit1H : Statement (.bit1H) := of_first 0xCB 2 rfl rfl (by decide) fun _ _ => rfl
theorem bit1L : Statement (.bit1L) := of_first 0xCB 2 rfl rfl (by decide) fun _ _ => rfl
theorem bit1AtHL : Statement (.bit1AtHL) := of_first 0xCB 2 rfl rfl (by decide) fun _ _ => rfl
theorem bit1A : Statement (.bit1A) := of_first 0xCB 2 rfl rfl (by decide) fun _ _ => rfl
theorem bit2B : Statement (.bit2B) := of_first 0xCB 2 rfl rfl (by decide) fun _ _ => rfl
theorem bit2C : Statement (.bit2C) := of_first 0xCB 2 rfl rfl (by decide) fun _ _ => rfl
theorem bit2D : Statement (.bit2D) := of_first 0xCB 2 rfl rfl (by decide) fun _ _ => rfl
theorem bit2E : Statement (.bit2E) := of_first 0xCB 2 rfl rfl (by decide) fun _ _ => rfl
theorem bit2H : Statement (.bit2H) := of_first 0xCB 2 rfl rfl (by decide) fun _ _ => rfl
theorem bit2L : Statement (.bit2L) := of_first 0xCB 2 rfl rfl (by decide) fun _ _ => rfl
theorem bit2AtHL : Statement (.bit2AtHL) := of_first 0xCB 2 rfl rfl (by decide) fun _ _ => rfl
theorem bit2A : Statement (.bit2A) := of_first 0xCB 2 rfl rfl (by decide) fun _ _ => rfl
theorem bit3B : Statement (.bit3B) := of_first 0xCB 2 rfl rfl (by decide) fun _ _ => rfl
theorem bit3C : Statement (.bit3C) := of_first 0xCB 2 rfl rfl (by decide) fun _ _ => rfl
theorem bit3D : Statement (.bit3D) := of_first 0xCB 2 rfl rfl (by decide) fun _ _ => rfl
theorem bit3E : Statement (.bit3E) := of_first 0xCB 2 rfl rfl (by decide) fun _ _ => rfl
theorem bit3H : Statement (.bit3H) := of_first 0xCB 2 rfl rfl (by decide) fun _ _ => rfl
theorem bit3L : Statement (.bit3L) := of_first 0xCB 2 rfl rfl (by decide) fun _ _ => rfl
theorem bit3AtHL : Statement (.bit3AtHL) := of_first 0xCB 2 rfl rfl (by decide) fun _ _ => rfl
theorem bit3A : Statement (.bit3A) := of_first 0xCB 2 rfl rfl (by decide) fun _ _ => rfl
theorem bit4B : Statement (.bit4B) := of_first 0xCB 2 rfl rfl (by decide) fun _ _ => rfl
theorem bit4C : Statement (.bit4C) := of_first 0xCB 2 rfl rfl (by decide) fun _ _ => rfl
theorem bit4D : Statement (.bit4D) := of_first 0xCB 2 rfl rfl (by decide) fun _ _ => rfl
theorem bit4E : Statement (.bit4E) := of_first 0xCB 2 rfl rfl (by decide) fun _ _ => rfl
theorem bit4H : Statement (.bit4H) := of_first 0xCB 2 rfl rfl (by decide) fun _ _ => rfl
theorem bit4L : Statement (.bit4L) := of_first 0xCB 2 rfl rfl (by decide) fun _ _ => rfl
theorem bit4AtHL : Statement (.bit4AtHL) := of_first 0xCB 2 rfl rfl (by decide) fun _ _ => rfl
theorem bit4A : Statement (.bit4A) := of_first 0xCB 2 rfl rfl (by decide) fun _ _ => rfl
theorem bit5B : Statement (.bit5B) := of_first 0xCB 2 rfl rfl (by decide) fun _ _ => rfl
theorem bit5C : Statement (.bit5C) := of_first 0xCB 2 rfl rfl (by decide) fun _ _ => rfl
theorem bit5D : Statement (.bit5D) := of_first 0xCB 2 rfl rfl (by decide) fun _ _ => rfl
theorem bit5E : Statement (.bit5E) := of_first 0xCB 2 rfl rfl (by decide) fun _ _ => rfl
theorem bit5H : Statement (.bit5H) := of_first 0xCB 2 rfl rfl (by decide) fun _ _ => rfl
theorem bit5L : Statement (.bit5L) := of_first 0xCB 2 rfl rfl (by decide) fun _ _ => rfl
theorem bit5AtHL : Statement (.bit5AtHL) := of_first 0xCB 2 rfl rfl (by decide) fun _ _ => rfl
theorem bit5A : Statement (.bit5A) := of_first 0xCB 2 rfl rfl (by decide) fun _ _ => rfl
theorem bit6B : Statement (.bit6B) := of_first 0xCB 2 rfl rfl (by decide) fun _ _ => rfl
theorem bit6C : Statement (.bit6C) := of_first 0xCB 2 rfl rfl (by decide) fun _ _ => rfl
theorem bit6D : Statement (.bit6D) := of_first 0xCB 2 rfl rfl (by decide) fun _ _ => rfl
theorem bit6E : Statement (.bit6E) := of_first 0xCB 2 rfl rfl (by decide) fun _ _ => rfl
theorem bit6H : Statement (.bit6H) := of_first 0xCB 2 rfl rfl (by decide) fun _ _ => rfl
theorem bit6L : Statement (.bit6L) := of_first 0xCB 2 rfl rfl (by decide) fun _ _ => rfl
theorem bit6AtHL : Statement (.bit6AtHL) := of_first 0xCB 2 rfl rfl (by decide) fun _ _ => rfl
theorem bit6A : Statement (.bit6A) := of_first 0xCB 2 rfl rfl (by decide) fun _ _ => rfl
theorem bit7B : Statement (.bit7B) := of_first 0xCB 2 rfl rfl (by decide) fun _ _ => rfl
theorem bit7C : Statement (.bit7C) := of_first 0xCB 2 rfl rfl (by decide) fun _ _ => rfl
theorem bit7D : Statement (.bit7D) := of_first 0xCB 2 rfl rfl (by decide) fun _ _ => rfl
theorem bit7E : Statement (.bit7E) := of_first 0xCB 2 rfl rfl (by decide) fun _ _ => rfl
theorem bit7H : Statement (.bit7H) := of_first 0xCB 2 rfl rfl (by decide) fun _ _ => rfl
theorem bit7L : Statement (.bit7L) := of_first 0xCB 2 rfl rfl (by decide) fun _ _ => rfl
theorem bit7AtHL : Statement (.bit7AtHL) := of_first 0xCB 2 rfl rfl (by decide) fun _ _ => rfl
theorem bit7A : Statement (.bit7A) := of_first 0xCB 2 rfl rfl (by decide) fun _ _ => rfl
theorem res0B : Statement (.res0B) := of_first 0xCB 2 rfl rfl (by decide) fun _ _ => rfl
theorem res0C : Statement (.res0C) := of_first 0xCB 2 rfl rfl (by decide) fun _ _ => rfl
theorem res0D : Statement (.res0D) := of_first 0xCB 2 rfl rfl (by decide) fun _ _ => rfl
theorem res0E : Statement (.res0E) := of_first 0xCB 2 rfl rfl (by decide) fun _ _ => rfl
theorem res0H : Statement (.res0H) := of_first 0xCB 2 rfl rfl (by decide) fun _ _ => rfl
theorem res0L : Statement (.res0L) := of_first 0xCB 2 rfl rfl (by decide) fun _ _ => rfl
theorem res0AtHL : Statement (.res0AtHL) := of_first 0xCB 2 rfl rfl (by decide) fun _ _ => rfl
theorem res0A : Statement (.res0A) := of_first 0xCB 2 rfl rfl (by decide) fun _ _ => rfl
theorem res1B : Statement (.res1B) := of_first 0xCB 2 rfl rfl (by decide) fun _ _ => rfl
theorem res1C : Statement (.res1C) := of_first 0xCB 2 rfl rfl (by decide) fun _ _ => rfl
theorem res1D : Statement (.res1D) := of_first 0xCB 2 rfl rfl (by decide) fun _ _ => rfl
theorem res1E : Statement (.res1E) := of_first 0xCB 2 rfl rfl (by decide) fun _ _ => rfl
theorem res1H : Statement (.res1H) := of_first 0xCB 2 rfl rfl (by decide) fun _ _ => rfl
theorem res1L : Statement (.res1L) := of_first 0xCB 2 rfl rfl (by decide) fun _ _ => rfl
theorem res1AtHL : Statement (.res1AtHL) := of_first 0xCB 2 rfl rfl (by decide) fun _ _ => rfl
theorem res1A : Statement (.res1A) := of_first 0xCB 2 rfl rfl (by decide) fun _ _ => rfl
theorem res2B : Statement (.res2B) := of_first 0xCB 2 rfl rfl (by decide) fun _ _ => rfl
theorem res2C : Statement (.res2C) := of_first 0xCB 2 rfl rfl (by decide) fun _ _ => rfl
theorem res2D : Statement (.res2D) := of_first 0xCB 2 rfl rfl (by decide) fun _ _ => rfl
theorem res2E : Statement (.res2E) := of_first 0xCB 2 rfl rfl (by decide) fun _ _ => rfl
theorem res2H : Statement (.res2H) := of_first 0xCB 2 rfl rfl (by decide) fun _ _ => rfl
theorem res2L : Statement (.res2L) := of_first 0xCB 2 rfl rfl (by decide) fun _ _ => rfl
theorem res2AtHL : Statement (.res2AtHL) := of_first 0xCB 2 rfl rfl (by decide) fun _ _ => rfl
theorem res2A : Statement (.res2A) := of_first 0xCB 2 rfl rfl (by decide) fun _ _ => rfl
theorem res3B : Statement (.res3B) := of_first 0xCB 2 rfl rfl (by decide) fun _ _ => rfl
theorem res3C : Statement (.res3C) := of_first 0xCB 2 rfl rfl (by decide) fun _ _ => rfl
theorem res3D : Statement (.res3D) := of_first 0xCB 2 rfl rfl (by decide) fun _ _ => rfl
theorem res3E : Statement (.res3E) := of_first 0xCB 2 rfl rfl (by decide) fun _ _ => rfl
theorem res3H : Statement (.res3H) := of_first 0xCB 2 rfl rfl (by decide) fun _ _ => rfl
theorem res3L : Statement (.res3L) := of_first 0xCB 2 rfl rfl (by decide) fun _ _ => rfl
theorem res3AtHL : Statement (.res3AtHL) := of_first 0xCB 2 rfl rfl (by decide) fun _ _ => rfl
theorem res3A : Statement (.res3A) := of_first 0xCB 2 rfl rfl (by decide) fun _ _ => rfl
theorem res4B : Statement (.res4B) := of_first 0xCB 2 rfl rfl (by decide) fun _ _ => rfl
theorem res4C : Statement (.res4C) := of_first 0xCB 2 rfl rfl (by decide) fun _ _ => rfl
theorem res4D : Statement (.res4D) := of_first 0xCB 2 rfl rfl (by decide) fun _ _ => rfl
theorem res4E : Statement (.res4E) := of_first 0xCB 2 rfl rfl (by decide) fun _ _ => rfl
theorem res4H : Statement (.res4H) := of_first 0xCB 2 rfl rfl (by decide) fun _ _ => rfl
theorem res4L : Statement (.res4L) := of_first 0xCB 2 rfl rfl (by decide) fun _ _ => rfl
theorem res4AtHL : Statement (.res4AtHL) := of_first 0xCB 2 rfl rfl (by decide) fun _ _ => rfl
theorem res4A : Statement (.res4A) := of_first 0xCB 2 rfl rfl (by decide) fun _ _ => rfl
theorem res5B : Statement (.res5B) := of_first 0xCB 2 rfl rfl (by decide) fun _ _ => rfl
theorem res5C : Statement (.res5C) := of_first 0xCB 2 rfl rfl (by decide) fun _ _ => rfl
theorem res5D : Statement (.res5D) := of_first 0xCB 2 rfl rfl (by decide) fun _ _ => rfl
theorem res5E : Statement (.res5E) := of_first 0xCB 2 rfl rfl (by decide) fun _ _ => rfl
theorem res5H : Statement (.res5H) := of_first 0xCB 2 rfl rfl (by decide) fun _ _ => rfl
theorem res5L : Statement (.res5L) := of_first 0xCB 2 rfl rfl (by decide) fun _ _ => rfl
theorem res5AtHL : Statement (.res5AtHL) := of_first 0xCB 2 rfl rfl (by decide) fun _ _ => rfl
theorem res5A : Statement (.res5A) := of_first 0xCB 2 rfl rfl (by decide) fun _ _ => rfl
theorem res6B : Statement (.res6B) := of_first 0xCB 2 rfl rfl (by decide) fun _ _ => rfl
theorem res6C : Statement (.res6C) := of_first 0xCB 2 rfl rfl (by decide) fun _ _ => rfl
theorem res6D : Statement (.res6D) := of_first 0xCB 2 rfl rfl (by decide) fun _ _ => rfl
theorem res6E : Statement (.res6E) := of_first 0xCB 2 rfl rfl (by decide) fun _ _ => rfl
theorem res6H : Statement (.res6H) := of_first 0xCB 2 rfl rfl (by decide) fun _ _ => rfl
theorem res6L : Statement (.res6L) := of_first 0xCB 2 rfl rfl (by decide) fun _ _ => rfl
theorem res6AtHL : Statement (.res6AtHL) := of_first 0xCB 2 rfl rfl (by decide) fun _ _ => rfl
theorem res6A : Statement (.res6A) := of_first 0xCB 2 rfl rfl (by decide) fun _ _ => rfl
theorem res7B : Statement (.res7B) := of_first 0xCB 2 rfl rfl (by decide) fun _ _ => rfl
theorem res7C : Statement (.res7C) := of_first 0xCB 2 rfl rfl (by decide) fun _ _ => rfl
theorem res7D : Statement (.res7D) := of_first 0xCB 2 rfl rfl (by decide) fun _ _ => rfl
theorem res7E : Statement (.res7E) := of_first 0xCB 2 rfl rfl (by decide) fun _ _ => rfl
theorem res7H : Statement (.res7H) := of_first 0xCB 2 rfl rfl (by decide) fun _ _ => rfl
theorem res7L : Statement (.res7L) := of_first 0xCB 2 rfl rfl (by decide) fun _ _ => rfl
theorem res7AtHL : Statement (.res7AtHL) := of_first 0xCB 2 rfl rfl (by decide) fun _ _ => rfl
theorem res7A : Statement (.res7A) := of_first 0xCB 2 rfl rfl (by decide) fun _ _ => rfl
theorem set0B : Statement (.set0B) := of_first 0xCB 2 rfl rfl (by decide) fun _ _ => rfl
theorem set0C : Statement (.set0C) := of_first 0xCB 2 rfl rfl (by decide) fun _ _ => rfl
theorem set0D : Statement (.set0D) := of_first 0xCB 2 rfl rfl (by decide) fun _ _ => rfl
theorem set0E : Statement (.set0E) := of_first 0xCB 2 rfl rfl (by decide) fun _ _ => rfl
theorem set0H : Statement (.set0H) := of_first 0xCB 2 rfl rfl (by decide) fun _ _ => rfl
theorem set0L : Statement (.set0L) := of_first 0xCB 2 rfl rfl (by decide) fun _ _ => rfl
theorem set0AtHL : Statement (.set0AtHL) := of_first 0xCB 2 rfl rfl (by decide) fun _ _ => rfl
theorem set0A : Statement (.set0A) := of_first 0xCB 2 rfl rfl (by decide) fun _ _ => rfl
theorem set1B : Statement (.set1B) := of_first 0xCB 2 rfl rfl (by decide) fun _ _ => rfl
theorem set1C : Statement (.set1C) := of_first 0xCB 2 rfl rfl (by decide) fun _ _ => rfl
theorem set1D : Statement (.set1D) := of_first 0xCB 2 rfl rfl (by decide) fun _ _ => rfl
theorem set1E : Statement (.set1E) := of_first 0xCB 2 rfl rfl (by decide) fun _ _ => rfl
theorem set1H : Statement (.set1H) := of_first 0xCB 2 rfl rfl (by decide) fun _ _ => rfl
theorem set1L : Statement (.set1L) := of_first 0xCB 2 rfl rfl (by decide) fun _ _ => rfl
theorem set1AtHL : Statement (.set1AtHL) := of_first 0xCB 2 rfl rfl (by decide) fun _ _ => rfl
theorem set1A : Statement (.set1A) := of_first 0xCB 2 rfl rfl (by decide) fun _ _ => rfl
theorem set2B : Statement (.set2B) := of_first 0xCB 2 rfl rfl (by decide) fun _ _ => rfl
theorem set2C : Statement (.set2C) := of_first 0xCB 2 rfl rfl (by decide) fun _ _ => rfl
theorem set2D : Statement (.set2D) := of_first 0xCB 2 rfl rfl (by decide) fun _ _ => rfl
theorem set2E : Statement (.set2E) := of_first 0xCB 2 rfl rfl (by decide) fun _ _ => rfl
theorem set2H : Statement (.set2H) := of_first 0xCB 2 rfl rfl (by decide) fun _ _ => rfl
theorem set2L : Statement (.set2L) := of_first 0xCB 2 rfl rfl (by decide) fun _ _ => rfl
theorem set2AtHL : Statement (.set2AtHL) := of_first 0xCB 2 rfl rfl (by decide) fun _ _ => rfl
theorem set2A : Statement (.set2A) := of_first 0xCB 2 rfl rfl (by decide) fun _ _ => rfl
theorem set3B : Statement (.set3B) := of_first 0xCB 2 rfl rfl (by decide) fun _ _ => rfl
theorem set3C : Statement (.set3C) := of_first 0xCB 2 rfl rfl (by decide) fun _ _ => rfl
theorem set3D : Statement (.set3D) := of_first 0xCB 2 rfl rfl (by decide) fun _ _ => rfl
theorem set3E : Statement (.set3E) := of_first 0xCB 2 rfl rfl (by decide) fun _ _ => rfl
theorem set3H : Statement (.set3H) := of_first 0xCB 2 rfl rfl (by decide) fun _ _ => rfl
theorem set3L : Statement (.set3L) := of_first 0xCB 2 rfl rfl (by decide) fun _ _ => rfl
theorem set3AtHL : Statement (.set3AtHL) := of_first 0xCB 2 rfl rfl (by decide) fun _ _ => rfl
theorem set3A : Statement (.set3A) := of_first 0xCB 2 rfl rfl (by decide) fun _ _ => rfl
theorem set4B : Statement (.set4B) := of_first 0xCB 2 rfl rfl (by decide) fun _ _ => rfl
theorem set4C : Statement (.set4C) := of_first 0xCB 2 rfl rfl (by decide) fun _ _ => rfl
theorem set4D : Statement (.set4D) := of_first 0xCB 2 rfl rfl (by decide) fun _ _ => rfl
theorem set4E : Statement (.set4E) := of_first 0xCB 2 rfl rfl (by decide) fun _ _ => rfl
theorem set4H : Statement (.set4H) := of_first 0xCB 2 rfl rfl (by decide) fun _ _ => rfl
theorem set4L : Statement (.set4L) := of_first 0xCB 2 rfl rfl (by decide) fun _ _ => rfl
theorem set4AtHL : Statement (.set4AtHL) := of_first 0xCB 2 rfl rfl (by decide) fun _ _ => rfl
theorem set4A : Statement (.set4A) := of_first 0xCB 2 rfl rfl (by decide) fun _ _ => rfl
theorem set5B : Statement (.set5B) := of_first 0xCB 2 rfl rfl (by decide) fun _ _ => rfl
theorem set5C : Statement (.set5C) := of_first 0xCB 2 rfl rfl (by decide) fun _ _ => rfl
theorem set5D : Statement (.set5D) := of_first 0xCB 2 rfl rfl (by decide) fun _ _ => rfl
theorem set5E : Statement (.set5E) := of_first 0xCB 2 rfl rfl (by decide) fun _ _ => rfl
theorem set5H : Statement (.set5H) := of_first 0xCB 2 rfl rfl (by decide) fun _ _ => rfl
theorem set5L : Statement (.set5L) := of_first 0xCB 2 rfl rfl (by decide) fun _ _ => rfl
theorem set5AtHL : Statement (.set5AtHL) := of_first 0xCB 2 rfl rfl (by decide) fun _ _ => rfl
theorem set5A : Statement (.set5A) := of_first 0xCB 2 rfl rfl (by decide) fun _ _ => rfl
theorem set6B : Statement (.set6B) := of_first 0xCB 2 rfl rfl (by decide) fun _ _ => rfl
theorem set6C : Statement (.set6C) := of_first 0xCB 2 rfl rfl (by decide) fun _ _ => rfl
theorem set6D : Statement (.set6D) := of_first 0xCB 2 rfl rfl (by decide) fun _ _ => rfl
theorem set6E : Statement (.set6E) := of_first 0xCB 2 rfl rfl (by decide) fun _ _ => rfl
theorem set6H : Statement (.set6H) := of_first 0xCB 2 rfl rfl (by decide) fun _ _ => rfl
theorem set6L : Statement (.set6L) := of_first 0xCB 2 rfl rfl (by decide) fun _ _ => rfl
theorem set6AtHL : Statement (.set6AtHL) := of_first 0xCB 2 rfl rfl (by decide) fun _ _ => rfl
theorem set6A : Statement (.set6A) := of_first 0xCB 2 rfl rfl (by decide) fun _ _ => rfl
theorem set7B : Statement (.set7B) := of_first 0xCB 2 rfl rfl (by decide) fun _ _ => rfl
theorem set7C : Statement (.set7C) := of_first 0xCB 2 rfl rfl (by decide) fun _ _ => rfl
theorem set7D : Statement (.set7D) := of_first 0xCB 2 rfl rfl (by decide) fun _ _ => rfl
theorem set7E : Statement (.set7E) := of_first 0xCB 2 rfl rfl (by decide) fun _ _ => rfl
theorem set7H : Statement (.set7H) := of_first 0xCB 2 rfl rfl (by decide) fun _ _ => rfl
theorem set7L : Statement (.set7L) := of_first 0xCB 2 rfl rfl (by decide) fun _ _ => rfl
theorem set7AtHL : Statement (.set7AtHL) := of_first 0xCB 2 rfl rfl (by decide) fun _ _ => rfl
theorem set7A : Statement (.set7A) := of_first 0xCB 2 rfl rfl (by decide) fun _ _ => rfl
theorem undefinedD3 : Statement (.undefinedD3) := of_first 0xD3 1 rfl rfl (by decide) fun _ _ => rfl
theorem undefinedDB : Statement (.undefinedDB) := of_first 0xDB 1 rfl rfl (by decide) fun _ _ => rfl
theorem undefinedDD : Statement (.undefinedDD) := of_first 0xDD 1 rfl rfl (by decide) fun _ _ => rfl
theorem undefinedE3 : Statement (.undefinedE3) := of_first 0xE3 1 rfl rfl (by decide) fun _ _ => rfl
theorem undefinedE4 : Statement (.undefinedE4) := of_first 0xE4 1 rfl rfl (by decide) fun _ _ => rfl
theorem undefinedEB : Statement (.undefinedEB) := of_first 0xEB 1 rfl rfl (by decide) fun _ _ => rfl
theorem undefinedEC : Statement (.undefinedEC) := of_first 0xEC 1 rfl rfl (by decide) fun _ _ => rfl
theorem undefinedED : Statement (.undefinedED) := of_first 0xED 1 rfl rfl (by decide) fun _ _ => rfl
theorem undefinedF4 : Statement (.undefinedF4) := of_first 0xF4 1 rfl rfl (by decide) fun _ _ => rfl
theorem undefinedFC : Statement (.undefinedFC) := of_first 0xFC 1 rfl rfl (by decide) fun _ _ => rfl
theorem undefinedFD : Statement (.undefinedFD) := of_first 0xFD 1 rfl rfl (by decide) fun _ _ => rfl

end Sys2Proof.Laws.EncodedLength
end

