-- ==== Sys2Proof/Laws/Step.lean ====
section
/-!
SUPPORT. What a step can do (R303, R97): the inversion lemma, and the forward
lemma of each phase.
-/

namespace Sys2Proof.Machine

@[simp] theorem State.consumeEnable_pc (s : State) : s.consumeEnable.cpu.pc = s.cpu.pc := by
  unfold State.consumeEnable
  split <;> rfl
@[simp] theorem State.consumeEnable_bus (s : State) : s.consumeEnable.bus = s.bus := by
  unfold State.consumeEnable
  split <;> rfl
@[simp] theorem State.consumeEnable_halted (s : State) : s.consumeEnable.cpu.halted = s.cpu.halted := by
  unfold State.consumeEnable
  split <;> rfl
@[simp] theorem State.consumeEnable_flags (s : State) : s.consumeEnable.cpu.flags = s.cpu.flags := by
  unfold State.consumeEnable
  split <;> rfl
@[simp] theorem State.consumeEnable_sp (s : State) : s.consumeEnable.cpu.sp = s.cpu.sp := by
  unfold State.consumeEnable
  split <;> rfl
@[simp] theorem State.consumeEnable_hardStopped (s : State) :
    s.consumeEnable.cpu.hardStopped = s.cpu.hardStopped := by
  unfold State.consumeEnable
  split <;> rfl
@[simp] theorem State.consumeEnable_cycleCount (s : State) :
    s.consumeEnable.cpu.cycleCount = s.cpu.cycleCount := by
  unfold State.consumeEnable
  split <;> rfl
/-- Phase 1 leaves nothing pending to enable (R29). -/
@[simp] theorem State.consumeEnable_imePending (s : State) : s.consumeEnable.cpu.imePending = false := by
  unfold State.consumeEnable
  split
  · rfl
  · simp_all
/-- Phase 1 sets `IME` if the pending-enable flag was set (R29). -/
@[simp] theorem State.consumeEnable_ime (s : State) :
    s.consumeEnable.cpu.ime = (s.cpu.ime || s.cpu.imePending) := by
  unfold State.consumeEnable
  split <;> simp_all

@[simp] theorem State.skip_bus (s : State) (n : Nat) : (s.skip n).bus = s.bus := rfl
@[simp] theorem State.skip_pc (s : State) (n : Nat) : (s.skip n).cpu.pc = s.cpu.pc + BitVec.ofNat 16 n := rfl
@[simp] theorem State.settle_cpu (s t : State) : (State.settle s t).cpu = t.cpu := rfl
@[simp] theorem State.settle_bus (s t : State) :
    (State.settle s t).bus = t.bus.advance (t.cpu.cycleCount - s.cpu.cycleCount) := rfl

/-- Everything a step that answers a next state can be (R303): a dispatch, an
idle tick, or one instruction, then the peripherals (R97). -/
theorem step_cases {s t : State} (h : step s = .next t) :
    s.cpu.hardStopped = false ∧
    ((∃ src, s.consumeEnable.dispatchable = some src ∧
        t = State.settle s ((s.consumeEnable.dispatch src).cycles Config.intDispatchCycles)) ∨
      (s.consumeEnable.dispatchable = none ∧ s.consumeEnable.idles = true ∧
        t = State.settle s (s.consumeEnable.cycles Config.haltIdleCycles)) ∨
      (s.consumeEnable.dispatchable = none ∧ s.consumeEnable.idles = false ∧
        ∃ u, exec s.consumeEnable.fetched.1
            ((s.consumeEnable.setHalted false).skip s.consumeEnable.fetched.2) = .next u ∧
          t = State.settle s u)) := by
  unfold step State.iterate State.cpuStep at h
  split at h
  · next u hu =>
    split at hu
    · cases hu
    · next hstop =>
      refine ⟨by simpa using hstop, ?_⟩
      injection h with h
      subst h
      unfold State.afterEnable at hu
      split at hu
      · next src hsrc =>
        injection hu with hu
        subst hu
        exact .inl ⟨src, hsrc, rfl⟩
      · next hnone =>
        split at hu
        · next hidle =>
          injection hu with hu
          subst hu
          exact .inr (.inl ⟨hnone, hidle, rfl⟩)
        · next hidle => exact .inr (.inr ⟨hnone, by simpa using hidle, u, hu, rfl⟩)
  · cases h
  · cases h

/-- Phases 1 and 2: a step that dispatches. -/
theorem step_of_dispatch {s : State} {src : Source} (hs : s.cpu.hardStopped = false)
    (h : s.consumeEnable.dispatchable = some src) :
    step s = .next (State.settle s ((s.consumeEnable.dispatch src).cycles Config.intDispatchCycles)) := by
  simp only [step, State.iterate, State.cpuStep, State.afterEnable, hs, h]
  rfl

/-- Phase 3: an idle step. -/
theorem step_of_idle {s : State} (hs : s.cpu.hardStopped = false)
    (h : s.consumeEnable.dispatchable = none) (hi : s.consumeEnable.idles = true) :
    step s = .next (State.settle s (s.consumeEnable.cycles Config.haltIdleCycles)) := by
  simp only [step, State.iterate, State.cpuStep, State.afterEnable, hs, h, hi]
  rfl

/-- Phase 4: a step that runs an instruction. -/
theorem step_of_exec {s : State} (hs : s.cpu.hardStopped = false)
    (h : s.consumeEnable.dispatchable = none) (hi : s.consumeEnable.idles = false) :
    step s = match exec s.consumeEnable.fetched.1
        ((s.consumeEnable.setHalted false).skip s.consumeEnable.fetched.2) with
      | .next t => .next (State.settle s t)
      | .fault f => .fault f
      | .refused r => .refused r := by
  simp only [step, State.iterate, State.cpuStep, State.afterEnable, hs, h, hi]
  rfl

/-- Nothing is dispatched while `IME` is 0 (R28). -/
theorem dispatchable_of_ime_false {s : State} (h : s.cpu.ime = false) : s.dispatchable = none := by
  simp [State.dispatchable, h]

/-- The highest-priority source is the lowest-numbered set bit (R306). -/
theorem highestSource_spec (pend : BitVec 5) (src : Source) :
    highestSource pend = some src ↔
      pend.getLsbD src.bit = true ∧ ∀ j, j < src.bit → pend.getLsbD j = false := by
  revert pend
  cases src <;> decide

/-- No source is chosen exactly when nothing is pending. -/
theorem highestSource_none (pend : BitVec 5) : highestSource pend = none ↔ pend = 0 := by
  revert pend
  decide

end Sys2Proof.Machine
end

