-- ==== Sys2Proof/Tests/Slice0.lean ====
section
/-!
SUPPORT. Tests. Expected results come from the spec: the grid of R119 and R120, the
examples inside the instruction rules and the vectors of 95_test_vectors.md, each
one step on a small state. Then, for every obligation with hypotheses, a witness
that meets them all, at the boundaries of each clause.
-/

namespace Sys2Proof.Machine

/-! ### Helpers -/

/-- The four flags, written `fZ fN fH fC` as the vectors write them. -/
def Tests.fl (bits : BitVec 4) : Flags where
  z := bits.getLsbD 3
  n := bits.getLsbD 2
  h := bits.getLsbD 1
  c := bits.getLsbD 0

/-- The start state of the vectors: after reset, on a Fixed cartridge, `bytes` in ROM
at `pc`, the CPU changed by `f`, then the given bytes written on the bus. -/
def Tests.at' (pc : Nat) (bytes : List Byte) (f : Cpu → Cpu) (mem : List (Word × Byte)) : State :=
  let s := State.fresh .fixed 0x8000 0 (Memory.load [] pc bytes)
  { cpu := f { s.cpu with pc := BitVec.ofNat 16 pc }
    bus := mem.foldl (fun b w => b.write w.1 w.2) s.bus }

/-- The vectors' usual `PC`. -/
def Tests.start (bytes : List Byte) (f : Cpu → Cpu) (mem : List (Word × Byte)) : State := Tests.at' 0x0150 bytes f mem

/-- One step answers a next state that satisfies `p`. -/
def Tests.after (s : State) (p : State → Bool) : Bool :=
  match step s with
  | .next t => p t
  | .fault _ => false
  | .refused _ => false

/-- One meaning answers a next state that satisfies `p`. -/
def Tests.execAfter (i : Instr) (s : State) (p : State → Bool) : Bool :=
  match exec i s with
  | .next t => p t
  | .fault _ => false
  | .refused _ => false

/-- Two successive bytes that a step leaves at an address. -/
def Tests.word (s : State) (a : Word) : Byte × Byte := (s.bus.read (a + 1), s.bus.read a)

/-- Sixteen successive first bytes, each followed by 0x34 0x12, through the decoder. -/
def Tests.gridRow (hi : Nat) : List Instr :=
  (List.range 16).map fun lo => (decodeWindow (BitVec.ofNat 8 (16 * hi + lo)) 0x34 0x12).1

/-- Sixteen successive second bytes after the escape byte, through the decoder. -/
def Tests.gridRowCB (hi : Nat) : List Instr :=
  (List.range 16).map fun lo => (decodeWindow 0xCB (BitVec.ofNat 8 (16 * hi + lo)) 0x00).1

open Tests

/-! ### WellFormed: the one check refuses an escape row, and nothing else -/

theorem test_wellFormed_refuses_escape : ¬ (Instr.prefixCB 0x37).WellFormed := by decide

theorem test_wellFormed_accepts : (Instr.ldAN 0xFF).WellFormed ∧ Instr.undefinedDD.WellFormed := by decide

/-! ### Decoding: every cell of the grid of R119, then R120 -/

theorem test_decode_main_0x :
    gridRow 0x0 =
      [.nop, .ldBCNn 0x1234, .ldAtBCA, .incBC, .incB, .decB, .ldBN 0x34, .rlca, .ldAtNnSP 0x1234, .addHLBC,
        .ldAAtBC, .decBC, .incC, .decC, .ldCN 0x34, .rrca] := by decide

theorem test_decode_main_1x :
    gridRow 0x1 =
      [.stop 0x34, .ldDENn 0x1234, .ldAtDEA, .incDE, .incD, .decD, .ldDN 0x34, .rla, .jrE 0x34, .addHLDE,
        .ldAAtDE, .decDE, .incE, .decE, .ldEN 0x34, .rra] := by decide

theorem test_decode_main_2x :
    gridRow 0x2 =
      [.jrNZE 0x34, .ldHLNn 0x1234, .ldAtHLIncA, .incHL, .incH, .decH, .ldHN 0x34, .daa, .jrZE 0x34,
        .addHLHL, .ldAAtHLInc, .decHL, .incL, .decL, .ldLN 0x34, .cpl] := by decide

theorem test_decode_main_3x :
    gridRow 0x3 =
      [.jrNCE 0x34, .ldSPNn 0x1234, .ldAtHLDecA, .incSP, .incAtHL, .decAtHL, .ldAtHLN 0x34, .scf,
        .jrCE 0x34, .addHLSP, .ldAAtHLDec, .decSP, .incA, .decA, .ldAN 0x34, .ccf] := by decide

theorem test_decode_main_4x :
    gridRow 0x4 =
      [.ldBB, .ldBC, .ldBD, .ldBE, .ldBH, .ldBL, .ldBAtHL, .ldBA, .ldCB, .ldCC, .ldCD, .ldCE, .ldCH, .ldCL,
        .ldCAtHL, .ldCA] := by decide

theorem test_decode_main_5x :
    gridRow 0x5 =
      [.ldDB, .ldDC, .ldDD, .ldDE, .ldDH, .ldDL, .ldDAtHL, .ldDA, .ldEB, .ldEC, .ldED, .ldEE, .ldEH, .ldEL,
        .ldEAtHL, .ldEA] := by decide

theorem test_decode_main_6x :
    gridRow 0x6 =
      [.ldHB, .ldHC, .ldHD, .ldHE, .ldHH, .ldHL, .ldHAtHL, .ldHA, .ldLB, .ldLC, .ldLD, .ldLE, .ldLH, .ldLL,
        .ldLAtHL, .ldLA] := by decide

theorem test_decode_main_7x :
    gridRow 0x7 =
      [.ldAtHLB, .ldAtHLC, .ldAtHLD, .ldAtHLE, .ldAtHLH, .ldAtHLL, .halt, .ldAtHLA, .ldAB, .ldAC, .ldAD,
        .ldAE, .ldAH, .ldAL, .ldAAtHL, .ldAA] := by decide

theorem test_decode_main_8x :
    gridRow 0x8 =
      [.addAB, .addAC, .addAD, .addAE, .addAH, .addAL, .addAAtHL, .addAA, .adcAB, .adcAC, .adcAD, .adcAE,
        .adcAH, .adcAL, .adcAAtHL, .adcAA] := by decide

theorem test_decode_main_9x :
    gridRow 0x9 =
      [.subB, .subC, .subD, .subE, .subH, .subL, .subAtHL, .subA, .sbcAB, .sbcAC, .sbcAD, .sbcAE, .sbcAH,
        .sbcAL, .sbcAAtHL, .sbcAA] := by decide

theorem test_decode_main_Ax :
    gridRow 0xA =
      [.andB, .andC, .andD, .andE, .andH, .andL, .andAtHL, .andA, .xorB, .xorC, .xorD, .xorE, .xorH, .xorL,
        .xorAtHL, .xorA] := by decide

theorem test_decode_main_Bx :
    gridRow 0xB =
      [.orB, .orC, .orD, .orE, .orH, .orL, .orAtHL, .orA, .cpB, .cpC, .cpD, .cpE, .cpH, .cpL, .cpAtHL, .cpA] := by decide

theorem test_decode_main_Cx :
    gridRow 0xC =
      [.retNZ, .popBC, .jpNZNn 0x1234, .jpNn 0x1234, .callNZNn 0x1234, .pushBC, .addAN 0x34, .rst00, .retZ,
        .ret, .jpZNn 0x1234, .swapH, .callZNn 0x1234, .callNn 0x1234, .adcAN 0x34, .rst08] := by decide

theorem test_decode_main_Dx :
    gridRow 0xD =
      [.retNC, .popDE, .jpNCNn 0x1234, .undefinedD3, .callNCNn 0x1234, .pushDE, .subN 0x34, .rst10, .retC,
        .reti, .jpCNn 0x1234, .undefinedDB, .callCNn 0x1234, .undefinedDD, .sbcAN 0x34, .rst18] := by decide

theorem test_decode_main_Ex :
    gridRow 0xE =
      [.ldhAtNA 0x34, .popHL, .ldhAtCA, .undefinedE3, .undefinedE4, .pushHL, .andN 0x34, .rst20,
        .addSPE 0x34, .jpHL, .ldAtNnA 0x1234, .undefinedEB, .undefinedEC, .undefinedED, .xorN 0x34, .rst28] := by decide

theorem test_decode_main_Fx :
    gridRow 0xF =
      [.ldhAAtN 0x34, .popAF, .ldhAAtC, .di, .undefinedF4, .pushAF, .orN 0x34, .rst30, .ldHLSPE 0x34,
        .ldSPHL, .ldAAtNn 0x1234, .ei, .undefinedFC, .undefinedFD, .cpN 0x34, .rst38] := by decide

theorem test_decode_extended_0x :
    gridRowCB 0x0 =
      [.rlcB, .rlcC, .rlcD, .rlcE, .rlcH, .rlcL, .rlcAtHL, .rlcA, .rrcB, .rrcC, .rrcD, .rrcE, .rrcH, .rrcL,
        .rrcAtHL, .rrcA] := by decide

theorem test_decode_extended_1x :
    gridRowCB 0x1 =
      [.rlB, .rlC, .rlD, .rlE, .rlH, .rlL, .rlAtHL, .rlA, .rrB, .rrC, .rrD, .rrE, .rrH, .rrL, .rrAtHL, .rrA] := by decide

theorem test_decode_extended_2x :
    gridRowCB 0x2 =
      [.slaB, .slaC, .slaD, .slaE, .slaH, .slaL, .slaAtHL, .slaA, .sraB, .sraC, .sraD, .sraE, .sraH, .sraL,
        .sraAtHL, .sraA] := by decide

theorem test_decode_extended_3x :
    gridRowCB 0x3 =
      [.swapB, .swapC, .swapD, .swapE, .swapH, .swapL, .swapAtHL, .swapA, .srlB, .srlC, .srlD, .srlE, .srlH,
        .srlL, .srlAtHL, .srlA] := by decide

theorem test_decode_extended_4x :
    gridRowCB 0x4 =
      [.bit0B, .bit0C, .bit0D, .bit0E, .bit0H, .bit0L, .bit0AtHL, .bit0A, .bit1B, .bit1C, .bit1D, .bit1E,
        .bit1H, .bit1L, .bit1AtHL, .bit1A] := by decide

theorem test_decode_extended_5x :
    gridRowCB 0x5 =
      [.bit2B, .bit2C, .bit2D, .bit2E, .bit2H, .bit2L, .bit2AtHL, .bit2A, .bit3B, .bit3C, .bit3D, .bit3E,
        .bit3H, .bit3L, .bit3AtHL, .bit3A] := by decide

theorem test_decode_extended_6x :
    gridRowCB 0x6 =
      [.bit4B, .bit4C, .bit4D, .bit4E, .bit4H, .bit4L, .bit4AtHL, .bit4A, .bit5B, .bit5C, .bit5D, .bit5E,
        .bit5H, .bit5L, .bit5AtHL, .bit5A] := by decide

theorem test_decode_extended_7x :
    gridRowCB 0x7 =
      [.bit6B, .bit6C, .bit6D, .bit6E, .bit6H, .bit6L, .bit6AtHL, .bit6A, .bit7B, .bit7C, .bit7D, .bit7E,
        .bit7H, .bit7L, .bit7AtHL, .bit7A] := by decide

theorem test_decode_extended_8x :
    gridRowCB 0x8 =
      [.res0B, .res0C, .res0D, .res0E, .res0H, .res0L, .res0AtHL, .res0A, .res1B, .res1C, .res1D, .res1E,
        .res1H, .res1L, .res1AtHL, .res1A] := by decide

theorem test_decode_extended_9x :
    gridRowCB 0x9 =
      [.res2B, .res2C, .res2D, .res2E, .res2H, .res2L, .res2AtHL, .res2A, .res3B, .res3C, .res3D, .res3E,
        .res3H, .res3L, .res3AtHL, .res3A] := by decide

theorem test_decode_extended_Ax :
    gridRowCB 0xA =
      [.res4B, .res4C, .res4D, .res4E, .res4H, .res4L, .res4AtHL, .res4A, .res5B, .res5C, .res5D, .res5E,
        .res5H, .res5L, .res5AtHL, .res5A] := by decide

theorem test_decode_extended_Bx :
    gridRowCB 0xB =
      [.res6B, .res6C, .res6D, .res6E, .res6H, .res6L, .res6AtHL, .res6A, .res7B, .res7C, .res7D, .res7E,
        .res7H, .res7L, .res7AtHL, .res7A] := by decide

theorem test_decode_extended_Cx :
    gridRowCB 0xC =
      [.set0B, .set0C, .set0D, .set0E, .set0H, .set0L, .set0AtHL, .set0A, .set1B, .set1C, .set1D, .set1E,
        .set1H, .set1L, .set1AtHL, .set1A] := by decide

theorem test_decode_extended_Dx :
    gridRowCB 0xD =
      [.set2B, .set2C, .set2D, .set2E, .set2H, .set2L, .set2AtHL, .set2A, .set3B, .set3C, .set3D, .set3E,
        .set3H, .set3L, .set3AtHL, .set3A] := by decide

theorem test_decode_extended_Ex :
    gridRowCB 0xE =
      [.set4B, .set4C, .set4D, .set4E, .set4H, .set4L, .set4AtHL, .set4A, .set5B, .set5C, .set5D, .set5E,
        .set5H, .set5L, .set5AtHL, .set5A] := by decide

theorem test_decode_extended_Fx :
    gridRowCB 0xF =
      [.set6B, .set6C, .set6D, .set6E, .set6H, .set6L, .set6AtHL, .set6A, .set7B, .set7C, .set7D, .set7E,
        .set7H, .set7L, .set7AtHL, .set7A] := by decide

/-! ### One step: 8-bit loads -/

/-- R140. -/
theorem test_ld_r_r :
    after (start [0x78] (fun c => { c with b := 0x12, a := 0x00 }) []) (fun t =>
      t.cpu.a == 0x12 && t.cpu.b == 0x12 && t.cpu.pc == 0x0151 && t.cpu.cycleCount == 4) = true := by decide

/-- V-LD2. -/
theorem test_ld_r_n :
    after (start [0x06, 0xAB] id []) (fun t =>
      t.cpu.b == 0xAB && t.cpu.pc == 0x0152 && t.cpu.cycleCount == 8) = true := by decide

/-- R142. -/
theorem test_ld_r_atHL :
    after (start [0x46] (fun c => { c with h := 0xC0, l := 0x00 }) [(0xC000, 0x5A)]) (fun t =>
      t.cpu.b == 0x5A && t.cpu.cycleCount == 8) = true := by decide

/-- R142: the address is the old HL. -/
theorem test_ld_h_atHL_uses_old_HL :
    after (start [0x66] (fun c => { c with h := 0xC0, l := 0x10 }) [(0xC010, 0xD1)]) (fun t =>
      t.cpu.hl == 0xD110) = true := by decide

/-- R143. -/
theorem test_ld_atHL_r :
    after (start [0x77] (fun c => { c with h := 0xC1, l := 0x23, a := 0x99 }) []) (fun t =>
      t.bus.read 0xC123 == 0x99 && t.cpu.cycleCount == 8) = true := by decide

/-- R144. -/
theorem test_ld_atHL_n :
    after (start [0x36, 0x7F] (fun c => { c with h := 0xFF, l := 0x80 }) []) (fun t =>
      t.bus.read 0xFF80 == 0x7F && t.cpu.pc == 0x0152 && t.cpu.cycleCount == 12) = true := by decide

/-- R145. -/
theorem test_ld_a_atBC :
    after (start [0x0A] (fun c => { c with b := 0x80, c := 0x00 }) [(0x8000, 0x3C)]) (fun t =>
      t.cpu.a == 0x3C) = true := by decide

/-- R146, the ROM byte 0x0104 replaced by the one at 0x0151. -/
theorem test_ld_a_atDE :
    after (start [0x1A, 0xCE] (fun c => { c with d := 0x01, e := 0x51 }) []) (fun t =>
      t.cpu.a == 0xCE) = true := by decide

/-- R147. -/
theorem test_ld_atBC_a :
    after (start [0x02] (fun c => { c with b := 0xC0, c := 0x10, a := 0x42 }) []) (fun t =>
      t.bus.read 0xC010 == 0x42) = true := by decide

/-- R148. -/
theorem test_ld_atDE_a :
    after (start [0x12] (fun c => { c with d := 0x98, e := 0x00, a := 0x01 }) []) (fun t =>
      t.bus.read 0x9800 == 0x01) = true := by decide

/-- R149. -/
theorem test_ld_a_atNn :
    after (start [0xFA, 0x0F, 0xFF] id [(0xFF0F, 0x00)]) (fun t =>
      t.cpu.a == 0xE0 && t.cpu.cycleCount == 16) = true := by decide

/-- R150, low byte first. -/
theorem test_ld_atNn_a :
    after (start [0xEA, 0x10, 0xC0] (fun c => { c with a := 0x77 }) []) (fun t =>
      t.bus.read 0xC010 == 0x77 && t.cpu.pc == 0x0153 && t.cpu.cycleCount == 16) = true := by decide

/-- V-LD10. -/
theorem test_ldh_a_n :
    after (start [0xF0, 0x0F] id []) (fun t =>
      t.cpu.a == 0xE1 && t.cpu.cycleCount == 12) = true := by decide

/-- V-LD9. -/
theorem test_ldh_n_a :
    after (start [0xE0, 0x01] (fun c => { c with a := 0x01 }) []) (fun t =>
      t.bus.read 0xFF01 == 0x01 && t.cpu.cycleCount == 12) = true := by decide

/-- V-LD6. -/
theorem test_ldh_c_a :
    after (start [0xE2] (fun c => { c with a := 0x77, c := 0x80 }) []) (fun t =>
      t.bus.read 0xFF80 == 0x77 && t.cpu.cycleCount == 8) = true := by decide

/-- R154. -/
theorem test_ldh_a_c :
    after (start [0xF2] (fun c => { c with c := 0xFF }) [(0xFFFF, 0x05)]) (fun t =>
      t.cpu.a == 0xE5) = true := by decide

/-- V-LD7: HL wraps, IE keeps five bits. -/
theorem test_ld_hlInc_a :
    after (start [0x22] (fun c => { c with a := 0x56, h := 0xFF, l := 0xFF }) []) (fun t =>
      t.bus.ie == 0x16 && t.bus.read 0xFFFF == 0xF6 && t.cpu.hl == 0x0000) = true := by decide

/-- R156. -/
theorem test_ld_a_hlInc :
    after (start [0x2A, 0xCE] (fun c => { c with h := 0x01, l := 0x51 }) []) (fun t =>
      t.cpu.a == 0xCE && t.cpu.hl == 0x0152) = true := by decide

/-- R157. -/
theorem test_ld_hlDec_a :
    after (start [0x32] (fun c => { c with h := 0x9F, l := 0xFF, a := 0x00 }) [(0x9FFF, 0x55)]) (fun t =>
      t.bus.read 0x9FFF == 0x00 && t.cpu.hl == 0x9FFE) = true := by decide

/-- V-LD8. -/
theorem test_ld_a_hlDec :
    after (start [0x3A] (fun c => { c with h := 0xC0, l := 0x00 }) [(0xC000, 0x3C)]) (fun t =>
      t.cpu.a == 0x3C && t.cpu.hl == 0xBFFF) = true := by decide

/-! ### One step: 16-bit loads and the stack -/

/-- V-L16-1. -/
theorem test_ld_rr_nn :
    after (start [0x21, 0x00, 0xC0] id []) (fun t =>
      t.cpu.h == 0xC0 && t.cpu.l == 0x00 && t.cpu.pc == 0x0153 && t.cpu.cycleCount == 12) = true := by decide

/-- V-L16-2. -/
theorem test_ld_atNn_sp :
    after (start [0x08, 0x00, 0xC1] (fun c => { c with sp := 0xFFF8 }) []) (fun t =>
      t.bus.read 0xC100 == 0xF8 && t.bus.read 0xC101 == 0xFF && t.cpu.cycleCount == 20) = true := by decide

/-- V-L16-3. -/
theorem test_ld_sp_hl :
    after (start [0xF9] (fun c => { c with h := 0xDF, l := 0xFF }) []) (fun t =>
      t.cpu.sp == 0xDFFF && t.cpu.cycleCount == 8) = true := by decide

/-- V-L16-5. -/
theorem test_ld_hl_spE_carries :
    after (start [0xF8, 0xFF] (fun c => { c with sp := 0x0001 }) []) (fun t =>
      t.cpu.hl == 0x0000 && t.cpu.flags == fl 0b0011 && t.cpu.cycleCount == 12) = true := by decide

/-- V-L16-6. -/
theorem test_ld_hl_spE_negative :
    after (start [0xF8, 0xFF] (fun c => { c with sp := 0x0000 }) []) (fun t =>
      t.cpu.hl == 0xFFFF && t.cpu.flags == fl 0b0000) = true := by decide

/-- V-L16-7. -/
theorem test_push_bc :
    after (start [0xC5] (fun c => { c with b := 0x12, c := 0x34 }) []) (fun t =>
      t.bus.read 0xFFFD == 0x12 && t.bus.read 0xFFFC == 0x34 && t.cpu.sp == 0xFFFC && t.cpu.cycleCount == 16) = true := by decide

/-- V-L16-8. -/
theorem test_push_af :
    after (start [0xF5] (fun c => { c with a := 0x12, flags := fl 0b1010 }) []) (fun t =>
      t.bus.read 0xFFFD == 0x12 && t.bus.read 0xFFFC == 0xA0) = true := by decide

/-- V-L16-10. -/
theorem test_push_wraps :
    after (start [0xD5] (fun c => { c with sp := 0x0001, d := 0xAB, e := 0xCD }) []) (fun t =>
      t.bus.ie == 0x0D && t.cpu.sp == 0xFFFF) = true := by decide

/-- V-L16-9. -/
theorem test_pop_af :
    after (start [0xF1] (fun c => { c with sp := 0xFFFC }) [(0xFFFC, 0xFF), (0xFFFD, 0x12)]) (fun t =>
      t.cpu.a == 0x12 && t.cpu.flags == fl 0b1111 && t.cpu.sp == 0xFFFE && t.cpu.cycleCount == 12) = true := by decide

/-- R176. -/
theorem test_pop_hl :
    after (start [0xE1] (fun c => { c with sp := 0xFFFC }) [(0xFFFC, 0x34), (0xFFFD, 0x12)]) (fun t =>
      t.cpu.h == 0x12 && t.cpu.l == 0x34) = true := by decide

/-! ### One step: 8-bit arithmetic and logic -/

/-- V-A1. -/
theorem test_add_carries :
    after (start [0x80] (fun c => { c with a := 0x3A, b := 0xC6 }) []) (fun t =>
      t.cpu.a == 0x00 && t.cpu.flags == fl 0b1011 && t.cpu.cycleCount == 4) = true := by decide

/-- V-A2. -/
theorem test_add_a_a :
    after (start [0x87] (fun c => { c with a := 0x80 }) []) (fun t =>
      t.cpu.a == 0x00 && t.cpu.flags == fl 0b1001 && t.cpu.cycleCount == 4) = true := by decide

/-- V-A3. -/
theorem test_adc :
    after (start [0x8B] (fun c => { c with a := 0xE1, e := 0x0F, flags := fl 0b0001 }) []) (fun t =>
      t.cpu.a == 0xF1 && t.cpu.flags == fl 0b0010 && t.cpu.cycleCount == 4) = true := by decide

/-- V-A4. -/
theorem test_adc_ff :
    after (start [0xCE, 0xFF] (fun c => { c with a := 0xFF, flags := fl 0b0001 }) []) (fun t =>
      t.cpu.a == 0xFF && t.cpu.flags == fl 0b0011 && t.cpu.cycleCount == 8) = true := by decide

/-- V-A5. -/
theorem test_sub_zero :
    after (start [0x93] (fun c => { c with a := 0x3E, e := 0x3E }) []) (fun t =>
      t.cpu.a == 0x00 && t.cpu.flags == fl 0b1100 && t.cpu.cycleCount == 4) = true := by decide

/-- V-A6. -/
theorem test_sub_borrows :
    after (start [0xD6, 0x01] (fun c => { c with a := 0x00 }) []) (fun t =>
      t.cpu.a == 0xFF && t.cpu.flags == fl 0b0111 && t.cpu.cycleCount == 8) = true := by decide

/-- V-A7. -/
theorem test_sbc :
    after (start [0x9C] (fun c => { c with a := 0x3B, h := 0x2A, flags := fl 0b0001 }) []) (fun t =>
      t.cpu.a == 0x10 && t.cpu.flags == fl 0b0100 && t.cpu.cycleCount == 4) = true := by decide

/-- V-A8. -/
theorem test_sbc_both_borrows :
    after (start [0xDE, 0xFF] (fun c => { c with a := 0x00, flags := fl 0b0001 }) []) (fun t =>
      t.cpu.a == 0x00 && t.cpu.flags == fl 0b1111 && t.cpu.cycleCount == 8) = true := by decide

/-- V-A10. -/
theorem test_and :
    after (start [0xA5] (fun c => { c with a := 0x5A, l := 0x3F }) []) (fun t =>
      t.cpu.a == 0x1A && t.cpu.flags == fl 0b0010 && t.cpu.cycleCount == 4) = true := by decide

/-- V-A11. -/
theorem test_xor_n :
    after (start [0xEE, 0x0F] (fun c => { c with a := 0xFF }) []) (fun t =>
      t.cpu.a == 0xF0 && t.cpu.flags == fl 0b0000 && t.cpu.cycleCount == 8) = true := by decide

/-- V-A12. -/
theorem test_xor_a :
    after (start [0xAF] (fun c => { c with a := 0x5C }) []) (fun t =>
      t.cpu.a == 0x00 && t.cpu.flags == fl 0b1000 && t.cpu.cycleCount == 4) = true := by decide

/-- V-A13. -/
theorem test_or_n :
    after (start [0xF6, 0x03] (fun c => { c with a := 0x5A }) []) (fun t =>
      t.cpu.a == 0x5B && t.cpu.flags == fl 0b0000 && t.cpu.cycleCount == 8) = true := by decide

/-- V-A14. -/
theorem test_cp_b :
    after (start [0xB8] (fun c => { c with a := 0x3C, b := 0x2F }) []) (fun t =>
      t.cpu.a == 0x3C && t.cpu.flags == fl 0b0110 && t.cpu.cycleCount == 4) = true := by decide

/-- V-A15. -/
theorem test_cp_atHL :
    after (start [0xBE] (fun c => { c with a := 0x3C, h := 0xC0, l := 0x00 }) [(0xC000, 0x40)]) (fun t =>
      t.cpu.a == 0x3C && t.cpu.flags == fl 0b0101 && t.cpu.cycleCount == 8) = true := by decide

/-- V-A16. -/
theorem test_inc_r :
    after (start [0x04] (fun c => { c with b := 0x0F, flags := fl 0b0000 }) []) (fun t =>
      t.cpu.b == 0x10 && t.cpu.flags == fl 0b0010) = true := by decide

/-- V-A17. -/
theorem test_inc_keeps_carry :
    after (start [0x3C] (fun c => { c with a := 0xFF, flags := fl 0b0101 }) []) (fun t =>
      t.cpu.a == 0x00 && t.cpu.flags == fl 0b1011 && t.cpu.cycleCount == 4) = true := by decide

/-- V-A18. -/
theorem test_dec_r :
    after (start [0x05] (fun c => { c with b := 0x01, flags := fl 0b0000 }) []) (fun t =>
      t.cpu.b == 0x00 && t.cpu.flags == fl 0b1100) = true := by decide

/-- V-A19. -/
theorem test_dec_keeps_carry :
    after (start [0x0D] (fun c => { c with c := 0x00, flags := fl 0b0001 }) []) (fun t =>
      t.cpu.c == 0xFF && t.cpu.flags == fl 0b0111) = true := by decide

/-- V-A20. -/
theorem test_inc_atHL :
    after (start [0x34] (fun c => { c with h := 0xC0, l := 0x00, flags := fl 0b0000 }) [(0xC000, 0xFF)]) (fun t =>
      t.bus.read 0xC000 == 0x00 && t.cpu.flags == fl 0b1010 && t.cpu.cycleCount == 12) = true := by decide

/-- R202. -/
theorem test_dec_atHL :
    after (start [0x35] (fun c => { c with h := 0xC0, l := 0x00, flags := fl 0b0000 }) [(0xC000, 0x00)]) (fun t =>
      t.bus.read 0xC000 == 0xFF && t.cpu.flags == fl 0b0110 && t.cpu.cycleCount == 12) = true := by decide

/-- V-A21. -/
theorem test_daa_add :
    after (start [0x27] (fun c => { c with a := 0x7D, flags := fl 0b0000 }) []) (fun t =>
      t.cpu.a == 0x83 && t.cpu.flags == fl 0b0000 && t.cpu.cycleCount == 4) = true := by decide

/-- V-A22. -/
theorem test_daa_add_carry :
    after (start [0x27] (fun c => { c with a := 0x9A, flags := fl 0b0000 }) []) (fun t =>
      t.cpu.a == 0x00 && t.cpu.flags == fl 0b1001 && t.cpu.cycleCount == 4) = true := by decide

/-- V-A23. -/
theorem test_daa_sub :
    after (start [0x27] (fun c => { c with a := 0x4B, flags := fl 0b0110 }) []) (fun t =>
      t.cpu.a == 0x45 && t.cpu.flags == fl 0b0100 && t.cpu.cycleCount == 4) = true := by decide

/-- V-A24. -/
theorem test_cpl :
    after (start [0x2F] (fun c => { c with a := 0x35, flags := fl 0b0000 }) []) (fun t =>
      t.cpu.a == 0xCA && t.cpu.flags == fl 0b0110 && t.cpu.cycleCount == 4) = true := by decide

/-- V-A25. -/
theorem test_scf :
    after (start [0x37] (fun c => { c with flags := fl 0b1110 }) []) (fun t =>
      t.cpu.flags == fl 0b1001) = true := by decide

/-- V-A26. -/
theorem test_ccf :
    after (start [0x3F] (fun c => { c with flags := fl 0b0111 }) []) (fun t =>
      t.cpu.flags == fl 0b0000) = true := by decide

/-! ### One step: 16-bit arithmetic -/

/-- V-W1. -/
theorem test_add_hl_bc :
    after (start [0x09] (fun c => { c with h := 0x8A, l := 0x23, b := 0x06, c := 0x05, flags := fl 0b0000 }) []) (fun t =>
      t.cpu.hl == 0x9028 && t.cpu.flags == fl 0b0010 && t.cpu.cycleCount == 8) = true := by decide

/-- V-W2. -/
theorem test_add_hl_hl :
    after (start [0x29] (fun c => { c with h := 0x8A, l := 0x23, flags := fl 0b1000 }) []) (fun t =>
      t.cpu.hl == 0x1446 && t.cpu.flags == fl 0b1011) = true := by decide

/-- V-W4. -/
theorem test_inc_rr :
    after (start [0x13] (fun c => { c with d := 0x23, e := 0x5F }) []) (fun t =>
      t.cpu.d == 0x23 && t.cpu.e == 0x60 && t.cpu.flags == fl 0b1011 && t.cpu.cycleCount == 8) = true := by decide

/-- V-W5. -/
theorem test_dec_rr_wraps :
    after (start [0x0B] (fun c => { c with b := 0x00, c := 0x00 }) []) (fun t =>
      t.cpu.b == 0xFF && t.cpu.c == 0xFF && t.cpu.flags == fl 0b1011) = true := by decide

/-- V-W7. -/
theorem test_add_sp_negative :
    after (start [0xE8, 0xFF] (fun c => { c with sp := 0x0100 }) []) (fun t =>
      t.cpu.sp == 0x00FF && t.cpu.flags == fl 0b0000 && t.cpu.cycleCount == 16) = true := by decide

/-- V-W8. -/
theorem test_add_sp_carries :
    after (start [0xE8, 0x01] (fun c => { c with sp := 0xFFFF }) []) (fun t =>
      t.cpu.sp == 0x0000 && t.cpu.flags == fl 0b0011) = true := by decide

/-! ### One step: Rotates, shifts and bits -/

/-- V-ROT1. -/
theorem test_rlca :
    after (start [0x07] (fun c => { c with a := 0x85, flags := fl 0b1110 }) []) (fun t =>
      t.cpu.a == 0x0B && t.cpu.flags == fl 0b0001 && t.cpu.cycleCount == 4) = true := by decide

/-- V-ROT5. -/
theorem test_rlca_z_is_0 :
    after (start [0x07] (fun c => { c with a := 0x00, flags := fl 0b0000 }) []) (fun t =>
      t.cpu.a == 0x00 && t.cpu.flags == fl 0b0000 && t.cpu.cycleCount == 4) = true := by decide

/-- V-ROT2. -/
theorem test_rrca :
    after (start [0x0F] (fun c => { c with a := 0x3B }) []) (fun t =>
      t.cpu.a == 0x9D && t.cpu.flags == fl 0b0001 && t.cpu.cycleCount == 4) = true := by decide

/-- V-ROT3. -/
theorem test_rla :
    after (start [0x17] (fun c => { c with a := 0x95, flags := fl 0b0001 }) []) (fun t =>
      t.cpu.a == 0x2B && t.cpu.flags == fl 0b0001 && t.cpu.cycleCount == 4) = true := by decide

/-- V-ROT4. -/
theorem test_rra :
    after (start [0x1F] (fun c => { c with a := 0x81, flags := fl 0b0000 }) []) (fun t =>
      t.cpu.a == 0x40 && t.cpu.flags == fl 0b0001 && t.cpu.cycleCount == 4) = true := by decide

/-- V-ROT6. -/
theorem test_rlc :
    after (start [0xCB, 0x00] (fun c => { c with b := 0x85 }) []) (fun t =>
      t.cpu.b == 0x0B && t.cpu.flags == fl 0b0001 && t.cpu.pc == 0x0152 && t.cpu.cycleCount == 8) = true := by decide

/-- V-ROT7. -/
theorem test_rrc :
    after (start [0xCB, 0x09] (fun c => { c with c := 0x01 }) []) (fun t =>
      t.cpu.c == 0x80 && t.cpu.flags == fl 0b0001) = true := by decide

/-- V-ROT8. -/
theorem test_rl :
    after (start [0xCB, 0x15] (fun c => { c with l := 0x80, flags := fl 0b0000 }) []) (fun t =>
      t.cpu.l == 0x00 && t.cpu.flags == fl 0b1001) = true := by decide

/-- V-ROT9. -/
theorem test_rr :
    after (start [0xCB, 0x1F] (fun c => { c with a := 0x01, flags := fl 0b0000 }) []) (fun t =>
      t.cpu.a == 0x00 && t.cpu.flags == fl 0b1001 && t.cpu.cycleCount == 8) = true := by decide

/-- V-ROT10. -/
theorem test_sla :
    after (start [0xCB, 0x22] (fun c => { c with d := 0x80 }) []) (fun t =>
      t.cpu.d == 0x00 && t.cpu.flags == fl 0b1001) = true := by decide

/-- V-ROT11. -/
theorem test_sra :
    after (start [0xCB, 0x2F] (fun c => { c with a := 0x8A }) []) (fun t =>
      t.cpu.a == 0xC5 && t.cpu.flags == fl 0b0000 && t.cpu.cycleCount == 8) = true := by decide

/-- V-ROT12. -/
theorem test_swap :
    after (start [0xCB, 0x37] (fun c => { c with a := 0xF1 }) []) (fun t =>
      t.cpu.a == 0x1F && t.cpu.flags == fl 0b0000 && t.cpu.cycleCount == 8) = true := by decide

/-- V-ROT13. -/
theorem test_srl :
    after (start [0xCB, 0x3F] (fun c => { c with a := 0xFF }) []) (fun t =>
      t.cpu.a == 0x7F && t.cpu.flags == fl 0b0001 && t.cpu.cycleCount == 8) = true := by decide

/-- V-ROT14. -/
theorem test_bit_7 :
    after (start [0xCB, 0x7F] (fun c => { c with a := 0x80, flags := fl 0b0001 }) []) (fun t =>
      t.cpu.a == 0x80 && t.cpu.flags == fl 0b0011 && t.cpu.cycleCount == 8) = true := by decide

/-- V-ROT16. -/
theorem test_bit_0_atHL :
    after (start [0xCB, 0x46] (fun c => { c with h := 0xC0, l := 0x00, flags := fl 0b0000 }) [(0xC000, 0xFE)]) (fun t =>
      t.cpu.flags == fl 0b1010 && t.bus.read 0xC000 == 0xFE && t.cpu.cycleCount == 12) = true := by decide

/-- V-ROT17. -/
theorem test_res :
    after (start [0xCB, 0xBF] (fun c => { c with a := 0x80 }) []) (fun t =>
      t.cpu.a == 0x00 && t.cpu.flags == fl 0b1011 && t.cpu.cycleCount == 8) = true := by decide

/-- V-ROT18. -/
theorem test_set_atHL :
    after (start [0xCB, 0xDE] (fun c => { c with h := 0xC0, l := 0x00 }) [(0xC000, 0x00)]) (fun t =>
      t.bus.read 0xC000 == 0x08 && t.cpu.flags == fl 0b1011 && t.cpu.cycleCount == 16) = true := by decide

/-! ### One step: Control transfer -/

/-- V-C1. -/
theorem test_jp_nn :
    after (at' 0x0100 [0xC3, 0x50, 0x01] id []) (fun t =>
      t.cpu.pc == 0x0150 && t.cpu.cycleCount == 16) = true := by decide

/-- V-C2. -/
theorem test_jp_z_taken :
    after (at' 0x0200 [0xCA, 0x00, 0x80] (fun c => { c with flags := fl 0b1000 }) []) (fun t =>
      t.cpu.pc == 0x8000 && t.cpu.cycleCount == 16) = true := by decide

/-- V-C3. -/
theorem test_jp_z_not_taken :
    after (at' 0x0200 [0xCA, 0x00, 0x80] (fun c => { c with flags := fl 0b0000 }) []) (fun t =>
      t.cpu.pc == 0x0203 && t.cpu.cycleCount == 12) = true := by decide

/-- V-C4. -/
theorem test_jp_hl :
    after (start [0xE9] (fun c => { c with h := 0xC1, l := 0x00 }) []) (fun t =>
      t.cpu.pc == 0xC100 && t.cpu.cycleCount == 4) = true := by decide

/-- V-C5. -/
theorem test_jr_forward :
    after (start [0x18, 0x05] id []) (fun t =>
      t.cpu.pc == 0x0157 && t.cpu.cycleCount == 12) = true := by decide

/-- V-C6. -/
theorem test_jr_back :
    after (start [0x18, 0xFB] id []) (fun t =>
      t.cpu.pc == 0x014D) = true := by decide

/-- V-C8. -/
theorem test_jr_nz_taken :
    after (start [0x20, 0xFC] (fun c => { c with flags := fl 0b0000 }) []) (fun t =>
      t.cpu.pc == 0x014E && t.cpu.cycleCount == 12) = true := by decide

/-- V-C9. -/
theorem test_jr_nz_not_taken :
    after (start [0x20, 0xFC] (fun c => { c with flags := fl 0b1000 }) []) (fun t =>
      t.cpu.pc == 0x0152 && t.cpu.cycleCount == 8) = true := by decide

/-- V-C10. -/
theorem test_call :
    after (start [0xCD, 0x00, 0x02] id []) (fun t =>
      word t 0xFFFC == (0x01, 0x53) && t.cpu.sp == 0xFFFC && t.cpu.pc == 0x0200 && t.cpu.cycleCount == 24) = true := by decide

/-- V-C11. -/
theorem test_call_c_not_taken :
    after (start [0xDC, 0x00, 0x02] (fun c => { c with flags := fl 0b0000 }) []) (fun t =>
      t.cpu.pc == 0x0153 && t.cpu.sp == 0xFFFE && t.cpu.cycleCount == 12) = true := by decide

/-- V-C12. -/
theorem test_ret :
    after (start [0xC9] (fun c => { c with sp := 0xFFFC }) [(0xFFFC, 0x53), (0xFFFD, 0x01)]) (fun t =>
      t.cpu.pc == 0x0153 && t.cpu.sp == 0xFFFE && t.cpu.cycleCount == 16) = true := by decide

/-- V-C13. -/
theorem test_ret_z_taken :
    after (start [0xC8] (fun c => { c with sp := 0xFFFC, flags := fl 0b1000 }) [(0xFFFC, 0x53), (0xFFFD, 0x01)]) (fun t =>
      t.cpu.pc == 0x0153 && t.cpu.sp == 0xFFFE && t.cpu.cycleCount == 20) = true := by decide

/-- V-C14. -/
theorem test_ret_z_not_taken :
    after (start [0xC8] (fun c => { c with sp := 0xFFFC, flags := fl 0b0000 }) [(0xFFFC, 0x53), (0xFFFD, 0x01)]) (fun t =>
      t.cpu.pc == 0x0151 && t.cpu.sp == 0xFFFC && t.cpu.cycleCount == 8) = true := by decide

/-- V-C15. -/
theorem test_reti :
    after (start [0xD9] (fun c => { c with sp := 0xFFFC }) [(0xFFFC, 0x53), (0xFFFD, 0x01)]) (fun t =>
      t.cpu.pc == 0x0153 && t.cpu.sp == 0xFFFE && t.cpu.ime && t.cpu.cycleCount == 16) = true := by decide

/-- V-C16. -/
theorem test_rst_28 :
    after (at' 0x0234 [0xEF] id []) (fun t =>
      word t 0xFFFC == (0x02, 0x35) && t.cpu.sp == 0xFFFC && t.cpu.pc == 0x0028 && t.cpu.cycleCount == 16) = true := by decide

/-! ### One step: System instructions, interrupts and HALT -/

/-- V-S1. -/
theorem test_nop :
    after (start [0x00] id []) (fun t =>
      t.cpu == { Cpu.powerOn with pc := 0x0151, cycleCount := 4 }) = true := by decide

/-- V-S2. -/
theorem test_halt :
    after (start [0x76] id []) (fun t =>
      t.cpu.halted && t.cpu.pc == 0x0151 && t.cpu.cycleCount == 4) = true := by decide

/-- V-S3. -/
theorem test_di :
    after (start [0xF3] (fun c => { c with ime := true }) []) (fun t =>
      !t.cpu.ime && !t.cpu.imePending && t.cpu.cycleCount == 4) = true := by decide

/-- V-S4. -/
theorem test_ei :
    after (start [0xFB] id []) (fun t =>
      !t.cpu.ime && t.cpu.imePending && t.cpu.cycleCount == 4) = true := by decide

/-- V-S4. -/
theorem test_ei_takes_effect_next_step :
    after (start [0x00] (fun c => { c with imePending := true }) []) (fun t =>
      t.cpu.ime && !t.cpu.imePending) = true := by decide

/-- V-S7. -/
theorem test_escape_then_dd :
    after (start [0xCB, 0xDD] id []) (fun t =>
      t.cpu.l == 0x4D && t.cpu.pc == 0x0152 && t.cpu.cycleCount == 8) = true := by decide

/-- V-INT1. -/
theorem test_dispatch :
    after (at' 0x0151 [0x00] (fun c => { c with ime := true }) [(0xFFFF, 0x04), (0xFF0F, 0x04)]) (fun t =>
      t.cpu.pc == 0x0050 && word t 0xFFFC == (0x01, 0x51) && t.cpu.sp == 0xFFFC && !t.cpu.ime && t.bus.iff == 0 && t.cpu.cycleCount == 20) = true := by decide

/-- V-INT2. -/
theorem test_dispatch_priority :
    after (start [0x00] (fun c => { c with ime := true }) [(0xFFFF, 0x1F), (0xFF0F, 0x1A)]) (fun t =>
      t.cpu.pc == 0x0048 && t.bus.iff == 0x18) = true := by decide

/-- V-INT3. -/
theorem test_no_dispatch_when_disabled :
    after (start [0x00] id [(0xFFFF, 0x04), (0xFF0F, 0x04)]) (fun t =>
      t.cpu.pc == 0x0151 && t.bus.iff == 0x04 && t.cpu.cycleCount == 4) = true := by decide

/-- V-INT4. -/
theorem test_no_dispatch_when_masked :
    after (start [0x00] (fun c => { c with ime := true }) [(0xFFFF, 0x04), (0xFF0F, 0x01)]) (fun t =>
      t.cpu.pc == 0x0151) = true := by decide

/-- V-INT5. -/
theorem test_halt_idles :
    after (at' 0x0151 [0x00] (fun c => { c with halted := true }) [(0xFFFF, 0x04), (0xFF0F, 0x00)]) (fun t =>
      t.cpu == { Cpu.powerOn with pc := 0x0151, halted := true, cycleCount := 1 }) = true := by decide

/-- V-INT6. -/
theorem test_halt_wakes_without_dispatch :
    after (at' 0x0151 [0x0C] (fun c => { c with halted := true }) [(0xFFFF, 0x04), (0xFF0F, 0x04)]) (fun t =>
      !t.cpu.halted && t.cpu.c == 0x14 && t.cpu.pc == 0x0152 && t.bus.iff == 0x04 && t.cpu.cycleCount == 4) = true := by decide

/-- V-INT7. -/
theorem test_halt_wakes_with_dispatch :
    after (at' 0x0151 [0x00] (fun c => { c with halted := true, ime := true }) [(0xFFFF, 0x04), (0xFF0F, 0x04)]) (fun t =>
      !t.cpu.halted && word t 0xFFFC == (0x01, 0x51) && t.cpu.pc == 0x0050) = true := by decide

/-- V-INT8. -/
theorem test_dispatch_before_fault :
    after (start [0xDD] (fun c => { c with ime := true }) [(0xFFFF, 0x01), (0xFF0F, 0x01)]) (fun t =>
      t.cpu.pc == 0x0040) = true := by decide

/-- P5 step 4: the pushed address is that after EI. -/
theorem test_pending_enable_dispatches :
    after (start [0x00] (fun c => { c with imePending := true, pc := 0x0105 }) [(0xFFFF, 0x01), (0xFF0F, 0x01)]) (fun t =>
      t.cpu.pc == 0x0040 && word t 0xFFFC == (0x01, 0x05) && !t.cpu.ime && t.bus.iff == 0) = true := by decide

/-- V-S5: the undefined opcode faults with its address; `hard_stopped` set, `PC` past
the byte. -/
theorem test_undefined_faults :
    (match step (start [0xDD] id []) with
      | .fault (.undefinedOpcode op addr final) =>
        op == 0xDD && addr == 0x0150 && final.cpu == { Cpu.powerOn with pc := 0x0151, hardStopped := true }
      | _ => false) = true := by decide

/-- V-S6. -/
theorem test_stop_is_refused :
    (match step (start [0x10, 0x00] id []) with
      | .refused r => r == .stop 0x00
      | _ => false) = true := by decide

/-- V-INT10, R303 phase 0. -/
theorem test_hard_stopped_has_no_step :
    (match step (start [0x00] (fun c => { c with hardStopped := true }) []) with
      | .fault f => f == .hardStopped
      | _ => false) = true := by decide

/-! ### The bus -/

/-- V-MEM1, E7: the echo, both ways. -/
theorem test_echo :
    ((State.reset.bus.write 0xC123 0x5A).read 0xE123 == 0x5A &&
      (State.reset.bus.write 0xFDFF 0x77).read 0xDDFF == 0x77) = true := by decide

/-- V-MEM2. -/
theorem test_unusable : ((State.reset.bus.write 0xFEA0 0x12).read 0xFEA0 == 0xFF) = true := by decide

/-- V-MEM3, V-MEM4. -/
theorem test_interrupt_registers :
    ((State.reset.bus.write 0xFF0F 0xFF).read 0xFF0F == 0xFF &&
      (State.reset.bus.write 0xFF0F 0x00).read 0xFF0F == 0xE0 &&
      (State.reset.bus.write 0xFFFF 0x05).read 0xFFFF == 0xE5) = true := by decide

/-- V-MEM5, three of the 160 bytes. -/
theorem test_dma :
    (let b := ((State.reset.bus.write 0xC000 0x00).write 0xC047 0x47).write 0xC09F 0x9F;
      let d := b.write 0xFF46 0xC0;
      d.read 0xFE00 == 0x00 && d.read 0xFE47 == 0x47 && d.read 0xFE9F == 0x9F && d.read 0xFF46 == 0xC0) = true := by
  decide +kernel

/-- V-MEM6, V-MEM7. -/
theorem test_timer_registers :
    (State.reset.bus.read 0xFF04 == 0xAB && (State.reset.bus.write 0xFF04 0x55).read 0xFF04 == 0x00 &&
      (State.reset.bus.write 0xFF07 0xFF).read 0xFF07 == 0xFF &&
      (State.reset.bus.write 0xFF07 0x00).read 0xFF07 == 0xF8) = true := by decide

/-- V-MEM8. -/
theorem test_fixed_ignores_writes :
    (let b := (at' 0x1234 [0x42] id []).bus;
      (b.write 0x1234 0x99).read 0x1234 == 0x42) = true := by decide

/-- A 64 KiB image with 0xB1 at 0x4000 and 0xB2 at 0x8000 (E2). -/
def Tests.banked (v : CartVariant) (ramSize : Nat) : Bus :=
  (State.fresh v 0x10000 ramSize (Memory.load (Memory.load [] 0x4000 [0xB1]) 0x8000 [0xB2])).bus

/-- E2: the bank-0 substitution. -/
theorem test_bank_zero_substitution :
    (let b := (banked .simple 0).write 0x2000 0x02;
      b.read 0x4000 == 0xB2 && (b.write 0x2000 0x00).read 0x4000 == 0xB1 &&
        (b.write 0x2000 0x20).read 0x4000 == 0xB1) = true := by decide

/-- R89: no substitution on the Extended cartridge: bank 0 in the switchable window. -/
theorem test_extended_selects_bank_zero :
    (let b := (State.fresh .extended 0x10000 0 (Memory.load [] 0x0000 [0xB0])).bus.write 0x2000 0x00;
      b.read 0x4000 == 0xB0) = true := by decide

/-- V-MEM10: the RAM-enable latch. -/
theorem test_ram_enable :
    (let b := banked .simple 0x2000;
      let c := (b.write 0xA000 0x12).write 0x0000 0x0A;
      b.read 0xA000 == 0xFF && (b.write 0xA000 0x12).cart.ram == [] &&
        (c.write 0xA000 0x34).read 0xA000 == 0x34) = true := by decide

/-! ### Timer and PPU -/

/-- A bus with the given timer, at reset otherwise, no request pending. -/
def Tests.timed (div : Word) (tima tma : Byte) (tac : BitVec 3) : Bus :=
  { State.reset.bus with
    iff := 0
    timer := { div16 := div, tima := tima, tma := tma, tac := tac, reloadPending := false } }

/-- A bus with the PPU at the given position and STAT, no request pending. -/
def Tests.placed (line dot : Nat) (stat : Byte) : Bus :=
  { State.reset.bus with iff := 0, ppu := { Ppu.powerOn with line := line, dot := dot, stat := stat } }

/-- E5: one period of the fastest clock. -/
theorem test_timer_period : 
    (((timed 0x0000 0x00 0x00 0b101).timerAdvance 16).timer.tima == 0x01) = true := by decide +kernel

/-- E5: the counter reads 0 for one cycle-unit, then the reload and the request. -/
theorem test_timer_overflow :
    (let one := (timed 0xAC3F 0xFF 0x80 0b101).timerTick;
      let two := one.timerTick;
      one.timer.tima == 0x00 && one.iff == 0 && two.timer.tima == 0x80 && two.iff == 0b00100 &&
        two.timer.div16 == 0xAC41) = true := by decide

/-- R334, R312: entering scanline 144 requests vertical-blank. -/
theorem test_ppu_vertical_blank :
    (let b := (placed 143 455 0).ppuTick;
      b.iff == 0b00001 && b.ppu.line == 144 && b.ppu.dot == 0) = true := by decide

/-- R312: entering horizontal-blank requests LCD-status under STAT bit 3. -/
theorem test_ppu_horizontal_blank :
    ((placed 7 251 0x08).ppuTick.iff == 0b00010 && (placed 7 251 0x00).ppuTick.iff == 0) = true := by decide

/-! ### Placing a table word -/

/-- The word of `LD A,n`, then that of `DAA`, run as the first step after reset. -/
theorem test_withFetchWord :
    (after (State.reset.withFetchWord 16 0x123E) (fun t => t.cpu.a == 0x12 && t.cpu.pc == 0x0102) &&
      after (State.reset.withFetchWord 8 0x2F) (fun t => t.cpu.a == 0xFE)) = true := by decide

theorem test_decodeTableWord :
    decodeTableWord 16 0xDECB = some .set3AtHL ∧ decodeTableWord 8 0x3E = some (.ldAN 0x00) ∧
      decodeTableWord 24 0xC12321 = some (.ldHLNn 0xC123) := by decide

/-! ### The invariant at reset -/

theorem reset_inv : State.reset.Inv where
  bus :=
    { memWf := rfl
      memWithin := rfl
      cart :=
        { romSize := by decide
          romWf := rfl
          romWithin := rfl
          ramWf := rfl
          ramWithin := rfl
          controller := trivial }
      ppu := { line := by decide, dot := by decide } }
  running := rfl

/-! ### Witnesses: states and operands that meet the hypotheses of each obligation -/

theorem witness_DecodeEncodeRoundTrip :
    (Instr.ldHLNn 0xFFFF).WellFormed ∧ decode (encode (.ldHLNn 0xFFFF) ++ [0x00]) = .ok (.ldHLNn 0xFFFF, [0x00]) :=
  ⟨rfl, rfl⟩

theorem witness_DecodedBytesAreTheEncoding : decode [0xCB, 0xFF, 0x00] = .ok (.set7A, [0x00]) := rfl

theorem witness_FirstByteDecidesLength :
    decode [0xCB, 0x00, 0x12] = .ok (.rlcB, [0x12]) ∧ decode [0xCB, 0x00, 0xFF] = .ok (.rlcB, [0xFF]) := ⟨rfl, rfl⟩

theorem witness_PushThenPopRestores :
    let s := State.reset
    IsStorage (s.cpu.sp - 1) ∧ IsStorage (s.cpu.sp - 2) ∧ route (s.cpu.sp - 1) ≠ route (s.cpu.sp - 2) :=
  ⟨⟨0xFFFD, by decide⟩, ⟨0xFFFC, by decide⟩, by decide⟩

/-- The largest operands, so that both carries of the sum and the borrow show. -/
theorem witness_DecimalAdjustMakesBcd :
    let s := start [] (fun c => { c with a := bcd 99 }) []
    (99 < 100 ∧ s.cpu.a = bcd 99) ∧
    execAfter (.addAN 0x99) s (fun t => execAfter .daa t (fun u => u.cpu.a == 0x98 && u.cpu.flags.c)) = true ∧
    execAfter (.subN 0x99) s (fun t => execAfter .daa t (fun u => u.cpu.a == 0x00 && !u.cpu.flags.c)) = true := by
  decide

/-- Each condition holds in one state and fails in another (Jumps, CallsAndRestarts,
Returns). -/
theorem witness_conditions :
    CondIs .nz (fl 0b0000) ∧ ¬ CondIs .nz (fl 0b1000) ∧ CondIs .z (fl 0b1000) ∧ ¬ CondIs .z (fl 0b0000) ∧
    CondIs .nc (fl 0b0000) ∧ ¬ CondIs .nc (fl 0b0001) ∧ CondIs .c (fl 0b0001) ∧ ¬ CondIs .c (fl 0b0000) := by
  simp [CondIs, fl]

theorem witness_UndefinedOpcodesHardStop :
    (0xFD : Byte) ∈ ([0xD3, 0xDB, 0xDD, 0xE3, 0xE4, 0xEB, 0xEC, 0xED, 0xF4, 0xFC, 0xFD] : List Byte) ∧
    (0xCB : Byte) ∉ ([0xD3, 0xDB, 0xDD, 0xE3, 0xE4, 0xEB, 0xEC, 0xED, 0xF4, 0xFC, 0xFD] : List Byte) ∧
    decode [0xCB, 0xDD, 0x00] = .ok (.set3L, [0x00]) := ⟨by decide, by decide, rfl⟩

/-- Interrupts enabled and nothing pending, the `PC` at the top of plain storage, the
second and third byte past the wrap. -/
theorem witness_StepRunsDecodedInstruction :
    let s := start [] (fun c => { c with pc := 0xFFFE, ime := true }) [(0xFFFE, 0x78)]
    s.cpu.hardStopped = false ∧ s.bus.ie &&& s.bus.iff = 0 ∧ s.cpu.halted = false ∧
    s.bus.read s.cpu.pc = 0x78 ∧ ∀ b c : Byte, decode [0x78, b, c] = .ok (.ldAB, [b, c]) :=
  ⟨rfl, by decide, rfl, by decide, fun _ _ => rfl⟩

/-- Halted with a pending source and interrupts disabled: the instruction runs. -/
theorem witness_StepRunsDecodedInstruction_halted :
    let s := start [0x0C] (fun c => { c with halted := true }) [(0xFFFF, 0x01)]
    s.cpu.hardStopped = false ∧ (s.cpu.ime || s.cpu.imePending) = false ∧ s.cpu.halted = true ∧
    s.bus.ie &&& s.bus.iff ≠ 0 ∧ s.bus.read s.cpu.pc = 0x0C :=
  ⟨rfl, rfl, rfl, by decide, by decide⟩

theorem witness_InterruptDispatch :
    let s := start [] (fun c => { c with imePending := true }) [(0xFFFF, 0x1F), (0xFF0F, 0x14)]
    let pending := s.bus.ie &&& s.bus.iff
    s.cpu.hardStopped = false ∧ (s.cpu.ime = true ∨ s.cpu.imePending = true) ∧
    pending.getLsbD Source.timer.bit = true ∧ ∀ j, j < Source.timer.bit → pending.getLsbD j = false := by
  decide

theorem witness_HaltedIdleStep :
    let s := start [] (fun c => { c with halted := true }) []
    s.cpu.hardStopped = false ∧ s.cpu.halted = true ∧ s.bus.ie &&& s.bus.iff = 0 := by
  decide

/-- With the vertical-blank request of reset enabled: dispatched one step later. -/
theorem witness_EnableInterruptLatency :
    let s := start [0xFB] id [(0xFFFF, 0x01)]
    (s.cpu.hardStopped = false ∧ s.cpu.ime = false ∧ s.cpu.imePending = false ∧ s.cpu.halted = false) ∧
    (s.bus.read s.cpu.pc == 0xFB) = true ∧
    after s (fun t => (t.bus.ie &&& t.bus.iff).getLsbD Source.vblank.bit &&
      after t (fun u => u.cpu.pc == 0x0040)) = true := by
  decide

/-- A step from a state that meets the invariant answers a next state
(InvariantKeptByStep, StepCostBounds, RomIsImmutable); it runs `EI`
(OnlyEiAndRetiEnable). -/
theorem witness_step :
    let s := { State.reset with bus := { State.reset.bus with cart := (start [0xFB] id []).bus.cart },
                                cpu := { Cpu.powerOn with pc := 0x0150 } }
    (∃ t, step s = .next t ∧ t.cpu.imePending = true) ∧ s.fetched.1 = .ei :=
  ⟨⟨_, rfl, rfl⟩, rfl⟩

theorem witness_InvariantKeptByStep :
    let s := start [0xFB] id []
    s.Inv ∧ ∃ t, step s = .next t :=
  ⟨{ bus :=
      { memWf := rfl
        memWithin := rfl
        cart :=
          { romSize := by decide
            romWf := rfl
            romWithin := rfl
            ramWf := rfl
            ramWithin := rfl
            controller := trivial }
        ppu := { line := by decide, dot := by decide } }
     running := rfl },
   ⟨_, rfl⟩⟩

/-- `RETI` enables at once (OnlyEiAndRetiEnable). -/
theorem witness_OnlyEiAndRetiEnable :
    after (start [0xD9] (fun c => { c with sp := 0xFFFC }) [(0xFFFC, 0x53), (0xFFFD, 0x01)])
      (fun t => t.cpu.ime) = true := by
  decide

theorem witness_OnlyListedInstructionsWriteFlags :
    (∃ t, exec (.set3L) State.reset = .next t) ∧ writesFlags .set3L = false ∧ writesFlags .bit4L = true ∧
      writesFlags .popAF = true ∧ writesFlags .popBC = false :=
  ⟨⟨_, rfl⟩, rfl, rfl, rfl, rfl⟩

/-- Both writes of a `PUSH` land in plain storage. -/
theorem witness_MemoryFrameOfEveryInstruction :
    let s := start [] id []
    (∃ t, exec .pushBC s = .next t) ∧ storesOf .pushBC s = [(0xFFFD, 0x00), (0xFFFC, 0x13)] ∧
    (∀ w ∈ storesOf .pushBC s, IsStorage w.1) ∧
    (∀ w ∈ storesOf .pushBC s, route 0xFFFE ≠ route w.1) := by
  have hw : storesOf .pushBC (start [] id []) = [(0xFFFD, 0x00), (0xFFFC, 0x13)] := rfl
  have store (k : Nat) (h : 0xFF80 ≤ k ∧ k < 0xFFFF) : route (BitVec.ofNat 16 k) = .store k := by
    have e := toNat_address k (by omega)
    rw [route_ram _ (by omega), e]
  refine ⟨⟨_, rfl⟩, hw, ?_, ?_⟩ <;> simp only [hw, List.mem_cons, List.not_mem_nil, or_false] <;>
    rintro w (rfl | rfl)
  · exact ⟨0xFFFD, store 0xFFFD (by decide)⟩
  · exact ⟨0xFFFC, store 0xFFFC (by decide)⟩
  · rw [show (0xFFFE : Word) = BitVec.ofNat 16 0xFFFE from rfl, store 0xFFFE (by decide),
      show ((0xFFFD, 0x00) : Word × Byte).1 = BitVec.ofNat 16 0xFFFD from rfl, store 0xFFFD (by decide)]
    simp
  · rw [show (0xFFFE : Word) = BitVec.ofNat 16 0xFFFE from rfl, store 0xFFFE (by decide),
      show ((0xFFFC, 0x13) : Word × Byte).1 = BitVec.ofNat 16 0xFFFC from rfl, store 0xFFFC (by decide)]
    simp

/-- An image of one byte, the smallest that loads, and the empty image, which does
not (ResetMeetsInvariant). -/
theorem witness_ResetMeetsInvariant : ∃ s, State.powerOn (.supported .rtc) [0x00] 0x8000 = .ok s := ⟨_, rfl⟩

/-- K22: an unsupported controller type is refused at `power_on`, whatever the image. -/
theorem test_powerOn_unsupported : State.powerOn .unsupported [0x00] 0 = .error .unsupportedController := rfl

/-- The three bytes of a small image are the first three ROM bytes (HostOperations). -/
theorem witness_HostOperations :
    ([0x11, 0x22, 0x33] : List Byte) ≠ [] ∧
    (match State.powerOn (.supported .extended) [0x11, 0x22, 0x33] 0 with
      | .ok s => s.bus.cart.romSize == 3 && s.bus.read 0x0002 == 0x33 && s.bus.read 0x0003 == 0x11
      | .error _ => false) = true := by
  decide

/-- The first and the last address of each window of RamReadAfterWrite. -/
theorem witness_RamReadAfterWrite :
    (([0x8000, 0x9FFF, 0xC000, 0xDFFF, 0xE000, 0xFDFF, 0xFE00, 0xFE9F, 0xFF01, 0xFF02, 0xFF03, 0xFF08, 0xFF0E] :
      List Word).all fun a => (State.reset.bus.write a 0x5A).read a == 0x5A) = true ∧
    (([0xFF10, 0xFF3F, 0xFF4C, 0xFF7F, 0xFF80, 0xFFFE] : List Word).all fun a =>
      (State.reset.bus.write a 0x5A).read a == 0x5A) = true ∧
    (([0xFEA0, 0xFEFF] : List Word).all fun a =>
      (State.reset.bus.write a 0x5A).read a == 0xFF && (State.reset.bus.write a 0x5A) == State.reset.bus) = true ∧
    (([0xE000, 0xFDFF] : List Word).all fun a =>
      (State.reset.bus.write a 0x5A).read (a - 0x2000) == 0x5A) = true := by
  decide

/-- The neighbours of the windows are not plain storage of this statement. -/
theorem witness_RamReadAfterWrite_outside :
    (([0xFF00, 0xFF04, 0xFF07, 0xFF0F, 0xFF40, 0xFF4B, 0xFFFF] : List Word).all fun a =>
      !decide (∃ k ∈ [a.toNat], route a = .store k)) = true := by
  decide

/-- A source in the ROM window and the highest source page. -/
theorem witness_OamDma :
    (let b := (at' 0x0100 [0x3C, 0x66] id []).bus.write 0xFF46 0x01;
      b.read 0xFE00 == 0x3C && b.read 0xFE01 == 0x66 && b.read 0xFF46 == 0x01) = true ∧
    ((State.reset.bus.write 0xFF46 0xFF).read 0xFE0F == 0xE1) = true := by
  decide +kernel

/-- Both ROM windows at their ends; the external-RAM window at its ends, with RAM
and without. -/
theorem witness_FixedCartridge :
    let b := (at' 0x0000 [0x11] id []).bus
    let r := { b with cart := { b.cart with ramSize := 0x2000 } }
    b.cart.controller = .fixed ∧ b.cart.ramSize = 0 ∧ r.cart.controller = .fixed ∧ r.cart.ramSize ≠ 0 ∧
    (b.read 0x0000 == 0x11 && b.write 0x7FFF 0x0A == b && b.read 0xBFFF == 0xFF && b.write 0xA000 0x12 == b &&
      (r.write 0xA000 0x12).read 0xA000 == 0x12 && (r.write 0xBFFF 0x34).read 0xBFFF == 0x34) = true := by
  decide

/-- The first and the last PPU register, its neighbours untouched, and the joypad
register (DeviceRegisters). -/
theorem witness_DeviceRegisters :
    (let b := State.reset.bus;
      (b.write 0xFF40 0x5A).read 0xFF40 == 0x5A && (b.write 0xFF44 0x5A).read 0xFF44 == 0x5A &&
        (b.write 0xFF44 0x5A).ppu.line == 0 && (b.write 0xFF4B 0x5A).read 0xFF4B == 0x5A &&
        (b.write 0xFF4B 0x5A).read 0xFF4A == 0x00 && (b.write 0xFF00 0x5A).read 0xFF00 == 0x5A) = true := by
  decide

/-- A cartridge of each banked kind with RAM, its RAM enabled. -/
def Tests.enabled (v : CartVariant) : Bus := (banked v 0x8000).write 0x0000 0x0A

/-- Each write window at its last address, and the register the next one sets is
untouched; the windows read and the RAM at both ends. -/
theorem witness_SimpleBankedCartridge :
    (enabled .simple).cart.controller =
      .simple { ramEnable := true, low5 := 1, secondary := 0, mode := false } ∧
    ((enabled .simple).write 0x1FFF 0x00).cart.controller =
      .simple { ramEnable := false, low5 := 1, secondary := 0, mode := false } ∧
    ((enabled .simple).write 0x3FFF 0xE2).cart.controller =
      .simple { ramEnable := true, low5 := 2, secondary := 0, mode := false } ∧
    ((enabled .simple).write 0x5FFF 0xFF).cart.controller =
      .simple { ramEnable := true, low5 := 1, secondary := 3, mode := false } ∧
    ((enabled .simple).write 0x7FFF 0x01).cart.controller =
      .simple { ramEnable := true, low5 := 1, secondary := 0, mode := true } ∧
    (((enabled .simple).read 0x4000 == 0xB1) &&
      (((enabled .simple).write 0xA000 0x21).read 0xA000 == 0x21) &&
      (((enabled .simple).write 0xBFFF 0x22).read 0xBFFF == 0x22) &&
      ((banked .simple 0x8000).write 0xBFFF 0x22 == banked .simple 0x8000)) = true := by
  decide

/-- The two halves of the 9-bit bank at the edges of their windows, and the RAM bank. -/
theorem witness_ExtendedBankedCartridge :
    (enabled .extended).cart.controller = .extended { ramEnable := true, romBank := 1, ramBank := 0 } ∧
    ((enabled .extended).write 0x2FFF 0xFF).cart.controller =
      .extended { ramEnable := true, romBank := 0x0FF, ramBank := 0 } ∧
    ((enabled .extended).write 0x3000 0xFF).cart.controller =
      .extended { ramEnable := true, romBank := 0x101, ramBank := 0 } ∧
    ((enabled .extended).write 0x5FFF 0x1F).cart.controller =
      .extended { ramEnable := true, romBank := 1, ramBank := 0xF } ∧
    ((enabled .extended).write 0x6000 0x1F).cart = (enabled .extended).cart ∧
    ((((enabled .extended).write 0x2000 0x02).read 0x4000 == 0xB2) &&
      (((enabled .extended).write 0xBFFF 0x22).read 0xBFFF == 0x22) &&
      ((banked .extended 0x8000).write 0xA000 0x22 == banked .extended 0x8000)) = true := by
  decide

/-- A clock register selected (`write(0x4000, 0x0C)`) and a RAM bank, the bank-0
substitution, at the ends of the windows of the RTC-backed cartridge (E3). -/
theorem witness_RtcBankedCartridge :
    (∃ m, ((enabled .rtc).write 0x5FFF 0x0C).cart.controller = .rtc m ∧ m.ramEnable = true ∧ m.select = .clock 4) ∧
    (enabled .rtc).cart.ramSize ≠ 0 ∧
    (∃ m, ((enabled .rtc).write 0x4000 0x03).cart.controller = .rtc m ∧ m.select = .ramBank 3) ∧
    (∃ m, ((enabled .rtc).write 0x1FFF 0x0B).cart.controller = .rtc m ∧ m.ramEnable = false) ∧
    (∃ m, ((enabled .rtc).write 0x3FFF 0x80).cart.controller = .rtc m ∧ m.romBank = 1) ∧
    (∃ m, (((enabled .rtc).write 0x6000 0x00).write 0x7FFF 0x01).cart.controller = .rtc m ∧ m.latches = 1) ∧
    (((enabled .rtc).write 0xBFFF 0x22).read 0xBFFF == 0x22) = true :=
  ⟨⟨_, rfl, rfl, rfl⟩, by decide, ⟨_, rfl, rfl⟩, ⟨_, rfl, rfl⟩, ⟨_, rfl, rfl⟩, ⟨_, rfl, rfl⟩, by decide⟩

/-- A selected clock register is out of reach while the latch is clear, and on a
cartridge without RAM (R85, D21, K18). -/
theorem test_clock_closed :
    let locked := ((enabled .rtc).write 0x4000 0x08).write 0x0000 0x00
    let noRam := ((banked .rtc 0).write 0x0000 0x0A).write 0x4000 0x08
    (locked.read 0xBFFF = 0xFF ∧ locked.write 0xBFFF 0x30 = locked) ∧
      noRam.read 0xBFFF = 0xFF ∧ noRam.write 0xBFFF 0x30 = noRam :=
  ⟨Bus.closed_window _ _ _ (by decide) (by decide) (by decide),
    Bus.closed_window _ _ _ (by decide) (by decide) (by decide)⟩

/-- Every clock selection, from the divider of reset. -/
theorem witness_TimerPeriod :
    (([0b100, 0b101, 0b110, 0b111] : List (BitVec 3)).all fun tac =>
      (timed 0xABCC 0xFE 0x00 tac).timer.tac.getLsbD 2 && !(timed 0xABCC 0xFE 0x00 tac).timer.reloadPending) = true ∧
    (0xFE : Byte).toNat < 0xFF := by
  decide

theorem witness_OneVerticalBlankPerFrame :
    State.reset.bus.ppu.Inv ∧ State.reset.bus.ppu.line = 0 ∧ State.reset.bus.ppu.dot = 0 :=
  ⟨reset_inv.bus.ppu, rfl, rfl⟩

/-- The last position of the frame, of the visible scanlines and of each mode. -/
theorem witness_PpuTick :
    ((153 < Config.linesPerFrame ∧ 455 < Config.dotsPerLine) ∧
      (placed 153 455 0x20).ppu.line = 153) ∧
    ((placed 153 455 0x20).ppuTick.iff == 0b00010 && (placed 143 455 0x10).ppuTick.iff == 0b00011 &&
      (placed 0 251 0x08).ppuTick.iff == 0b00010 && (placed 144 0 0x38).ppuTick.iff == 0 &&
      (placed 0 79 0x38).ppuTick.iff == 0 && (placed 0 79 0xFC).ppuTick.ppu.stat == 0xFF &&
      (placed 143 455 0x87).ppuTick.ppu.stat == 0x85 && (placed 143 455 0).ppuTick.ppu.ly == 144) = true := by
  decide

end Sys2Proof.Machine
end

/-!
SUPPORT. What any instruction can do (R27, R28, R29, R63, R362): the inversion lemma of
`exec`, from the lemma of each shared meaning.
-/

namespace Sys2Proof.Machine

/-! ### Meanings that no shared operation covers -/

theorem ldHLSPE_does (e : Byte) (s : State) :
    ∃ t, execLdHLSPE e s = .next t ∧ t.cpu.hl = spPlus s.cpu.sp e ∧ t.cpu.flags = spPlusFlags s.cpu.sp e ∧
      Does [.reg .h, .reg .l, .flags] 12 [] s t := by
  refine ⟨_, rfl, State.setHL_hl s _, rfl, ?_, by simp [Took], by simp [writeAll]⟩
  intro p hp
  cases p <;> simp_all [Part.Same, State.setHL_get_other]

theorem ldSPHL_does (s : State) :
    ∃ t, execLdSPHL s = .next t ∧ t.cpu.sp = s.cpu.hl ∧ Does [.sp] 8 [] s t := by
  refine ⟨_, rfl, rfl, ?_, by simp [Took], by simp [writeAll]⟩
  intro p hp
  cases p <;> simp_all [Part.Same]

theorem addSPE_does (e : Byte) (s : State) :
    ∃ t, execAddSPE e s = .next t ∧ t.cpu.sp = spPlus s.cpu.sp e ∧ t.cpu.flags = spPlusFlags s.cpu.sp e ∧
      Does [.sp, .flags] 16 [] s t := by
  refine ⟨_, rfl, rfl, rfl, ?_, by simp [Took], by simp [writeAll]⟩
  intro p hp
  cases p <;> simp_all [Part.Same]

theorem halt_does (s : State) :
    ∃ t, execHalt s = .next t ∧ t.cpu.halted = true ∧ Does [.halted] 4 [] s t := by
  refine ⟨_, rfl, rfl, ?_, by simp [Took], by simp [writeAll]⟩
  intro p hp
  cases p <;> simp_all [Part.Same]

theorem di_does (s : State) :
    ∃ t, execDi s = .next t ∧ t.cpu.ime = false ∧ t.cpu.imePending = false ∧ Does [.ime, .imePending] 4 [] s t := by
  refine ⟨_, rfl, rfl, rfl, ?_, by simp [Took], by simp [writeAll]⟩
  intro p hp
  cases p <;> simp_all [Part.Same]

theorem ei_does (s : State) :
    ∃ t, execEi s = .next t ∧ t.cpu.imePending = true ∧ Does [.imePending] 4 [] s t := by
  refine ⟨_, rfl, rfl, ?_, by simp [Took], by simp [writeAll]⟩
  intro p hp
  cases p <;> simp_all [Part.Same]

/-! ### The inversion lemma -/

/-- Which parts of the machine `i` may change: the flags by R27, the control state by
R28 to R30; registers, `SP`, `PC` and the bus are not limited. -/
def mayChange (i : Instr) (p : Part) : Bool :=
  match p with
  | .flags => writesFlags i
  | .ime => (i matches .di | .reti)
  | .imePending => (i matches .di | .ei)
  | .halted => (i matches .halt)
  | .hardStopped => false
  | _ => true

/-- What a run of `i` from `s` to `t` does: it changes only parts `i` may change, makes
the bus writes of `storesOf`, and takes 1 to 24 cycles. -/
def Ran (i : Instr) (s t : State) : Prop :=
  ∃ parts n, Does parts n (storesOf i s) s t ∧ parts.all (mayChange i) = true ∧ 1 ≤ n ∧ n ≤ 24

theorem Ran.of_does {i : Instr} {s t : State} {parts : List Part} {n : Nat}
    (hd : Does parts n (storesOf i s) s t) (hp : parts.all (mayChange i) = true) (hn : 1 ≤ n ∧ n ≤ 24) :
    Ran i s t :=
  ⟨parts, n, hd, hp, hn⟩

/-- A part `i` may not change is the same after it. -/
theorem Ran.same {i : Instr} {s t : State} {p : Part} (h : Ran i s t) (hp : mayChange i p = false) :
    p.Same s t := by
  obtain ⟨parts, n, hd, hall, -⟩ := h
  refine hd.frame p fun hmem => ?_
  rw [List.all_eq_true.mp hall p hmem] at hp
  cases hp

/-- An answer is one state: what holds of some next state holds of this one. -/
theorem of_next {r : Result} {t : State} {P : State → Prop} (hr : ∃ u, r = .next u ∧ P u) (h : r = .next t) :
    P t := by
  obtain ⟨u, hu, hP⟩ := hr
  cases hu.symm.trans h
  exact hP

/-- Both outcomes of a conditional call. -/
theorem ran_callIf {i : Instr} {s t : State} (cc : Cond) (nn : Word) (h : callIf cc nn s = .next t)
    (hs : storesOf i s = if condHolds cc s.cpu.flags then pushStores s s.cpu.pc else [])
    (hp : [Part.pc, .sp, .bus].all (mayChange i) = true) : Ran i s t := by
  obtain ⟨taken, notTaken⟩ := callIf_does cc nn s
  cases hc : condHolds cc s.cpu.flags with
  | true =>
    obtain ⟨_, _, hd⟩ := of_next (taken hc) h
    exact .of_does (by rwa [hs, hc]) hp (by decide)
  | false => exact .of_does (by rw [hs, hc]; exact of_next (notTaken hc) h) rfl (by decide)

/-- Both outcomes of a conditional return. -/
theorem ran_retIf {i : Instr} {s t : State} (cc : Cond) (h : retIf cc s = .next t)
    (hs : storesOf i s = []) (hp : [Part.pc, .sp].all (mayChange i) = true) : Ran i s t := by
  obtain ⟨taken, notTaken⟩ := retIf_does cc s
  cases hc : condHolds cc s.cpu.flags with
  | true =>
    obtain ⟨_, _, hd⟩ := of_next (taken hc) h
    exact .of_does (by rwa [hs]) hp (by decide)
  | false => exact .of_does (by rw [hs]; exact of_next (notTaken hc) h) rfl (by decide)

/-- Every instruction but the escape row, by its shared meaning. -/
theorem ran_of_wellFormed {i : Instr} {s t : State} (hi : i.WellFormed) (h : exec i s = .next t) : Ran i s t := by
  cases i
  case ldBB | ldBC | ldBD | ldBE | ldBH | ldBL | ldBA | ldCB | ldCC | ldCD | ldCE | ldCH | ldCL | ldCA
      | ldDB | ldDC | ldDD | ldDE | ldDH | ldDL | ldDA | ldEB | ldEC | ldED | ldEE | ldEH | ldEL | ldEA
      | ldHB | ldHC | ldHD | ldHE | ldHH | ldHL | ldHA | ldLB | ldLC | ldLD | ldLE | ldLH | ldLL | ldLA
      | ldAB | ldAC | ldAD | ldAE | ldAH | ldAL | ldAA =>
    obtain ⟨_, hd⟩ := of_next (ldRegReg_does _ _ s) h
    exact .of_does hd rfl (by decide)
  case ldBN | ldCN | ldDN | ldEN | ldHN | ldLN | ldAN =>
    obtain ⟨_, hd⟩ := of_next (ldRegN_does _ _ s) h
    exact .of_does hd rfl (by decide)
  case ldBAtHL | ldCAtHL | ldDAtHL | ldEAtHL | ldHAtHL | ldLAtHL | ldAAtHL =>
    obtain ⟨_, hd⟩ := of_next (ldRegAtHL_does _ s) h
    exact .of_does hd rfl (by decide)
  case ldAtHLB | ldAtHLC | ldAtHLD | ldAtHLE | ldAtHLH | ldAtHLL | ldAtHLA =>
    exact .of_does (of_next (ldAtHLReg_does _ s) h) rfl (by decide)
  case ldAAtBC | ldAAtDE | ldhAAtN | ldhAAtC | ldAAtNn =>
    obtain ⟨_, hd⟩ := of_next (loadA_does _ _ s) h
    exact .of_does hd rfl (by decide)
  case ldAtBCA | ldAtDEA | ldhAtNA | ldhAtCA | ldAtNnA =>
    exact .of_does (of_next (storeA_does _ _ s) h) rfl (by decide)
  case ldAtHLN =>
    cases h
    exact .of_does (store_does _ _ _ s) rfl (by decide)
  case ldAtHLIncA | ldAtHLDecA =>
    obtain ⟨_, hd⟩ := of_next (storeAMoveHL_does _ s) h
    exact .of_does hd rfl (by decide)
  case ldAAtHLInc | ldAAtHLDec =>
    obtain ⟨_, _, hd⟩ := of_next (loadAMoveHL_does _ s) h
    exact .of_does hd rfl (by decide)
  case ldBCNn | ldDENn | ldHLNn | ldSPNn =>
    obtain ⟨_, hd⟩ := of_next (ldRPN_does _ _ s) h
    exact .of_does hd rfl (by decide)
  case ldAtNnSP =>
    exact .of_does (of_next (storeSP_does _ s) h) rfl (by decide)
  case pushBC | pushDE | pushHL | pushAF =>
    obtain ⟨_, hd⟩ := of_next (pushRP2_does _ s) h
    exact .of_does hd rfl (by decide)
  case popBC | popDE | popHL | popAF =>
    obtain ⟨_, _, _, hd⟩ := of_next (popRP2_does _ s) h
    exact .of_does hd rfl (by decide)
  case ldHLSPE =>
    obtain ⟨_, _, hd⟩ := of_next (ldHLSPE_does _ s) h
    exact .of_does hd rfl (by decide)
  case ldSPHL =>
    obtain ⟨_, hd⟩ := of_next (ldSPHL_does s) h
    exact .of_does hd rfl (by decide)
  case addSPE =>
    obtain ⟨_, _, hd⟩ := of_next (addSPE_does _ s) h
    exact .of_does hd rfl (by decide)
  case addAB | addAC | addAD | addAE | addAH | addAL | addAAtHL | addAA | adcAB | adcAC | adcAD | adcAE
      | adcAH | adcAL | adcAAtHL | adcAA | subB | subC | subD | subE | subH | subL | subAtHL | subA
      | sbcAB | sbcAC | sbcAD | sbcAE | sbcAH | sbcAL | sbcAAtHL | sbcAA | andB | andC | andD | andE
      | andH | andL | andAtHL | andA | xorB | xorC | xorD | xorE | xorH | xorL | xorAtHL | xorA | orB
      | orC | orD | orE | orH | orL | orAtHL | orA | cpB | cpC | cpD | cpE | cpH | cpL | cpAtHL | cpA =>
    obtain ⟨_, _, hd⟩ := of_next (aluR8_does _ _ s) h
    exact .of_does hd rfl (by decide)
  case addAN | adcAN | subN | sbcAN | andN | xorN | orN | cpN =>
    obtain ⟨_, _, hd⟩ := of_next (aluN_does _ _ s) h
    exact .of_does hd rfl (by decide)
  case incB | incC | incD | incE | incH | incL | incAtHL | incA =>
    obtain ⟨_, _, hd⟩ := of_next (incR8_does _ s) h
    exact .of_does hd rfl (by decide)
  case decB | decC | decD | decE | decH | decL | decAtHL | decA =>
    obtain ⟨_, _, hd⟩ := of_next (decR8_does _ s) h
    exact .of_does hd rfl (by decide)
  case daa | cpl =>
    obtain ⟨_, _, hd⟩ := of_next (accOp_does _ s) h
    exact .of_does hd rfl (by decide)
  case scf | ccf =>
    obtain ⟨_, hd⟩ := of_next (flagOp_does _ s) h
    exact .of_does hd rfl (by decide)
  case addHLBC | addHLDE | addHLHL | addHLSP =>
    obtain ⟨_, _, hd⟩ := of_next (addHL_does _ s) h
    exact .of_does hd rfl (by decide)
  case incBC | decBC | incDE | decDE | incHL | decHL | incSP | decSP =>
    obtain ⟨_, hd⟩ := of_next (stepRP_does _ _ s) h
    exact .of_does hd rfl (by decide)
  case rlca | rrca | rla | rra =>
    obtain ⟨_, _, hd⟩ := of_next (rotateAcc_does _ s) h
    exact .of_does hd rfl (by decide)
  case rlcB | rlcC | rlcD | rlcE | rlcH | rlcL | rlcAtHL | rlcA | rrcB | rrcC | rrcD | rrcE | rrcH | rrcL
      | rrcAtHL | rrcA | rlB | rlC | rlD | rlE | rlH | rlL | rlAtHL | rlA | rrB | rrC | rrD | rrE | rrH
      | rrL | rrAtHL | rrA | slaB | slaC | slaD | slaE | slaH | slaL | slaAtHL | slaA | sraB | sraC | sraD
      | sraE | sraH | sraL | sraAtHL | sraA | swapB | swapC | swapD | swapE | swapH | swapL | swapAtHL
      | swapA | srlB | srlC | srlD | srlE | srlH | srlL | srlAtHL | srlA =>
    obtain ⟨_, _, hd⟩ := of_next (rotateR8_does _ _ s) h
    exact .of_does hd rfl (by decide)
  case bit0B | bit0C | bit0D | bit0E | bit0H | bit0L | bit0AtHL | bit0A | bit1B | bit1C | bit1D | bit1E
      | bit1H | bit1L | bit1AtHL | bit1A | bit2B | bit2C | bit2D | bit2E | bit2H | bit2L | bit2AtHL
      | bit2A | bit3B | bit3C | bit3D | bit3E | bit3H | bit3L | bit3AtHL | bit3A | bit4B | bit4C | bit4D
      | bit4E | bit4H | bit4L | bit4AtHL | bit4A | bit5B | bit5C | bit5D | bit5E | bit5H | bit5L
      | bit5AtHL | bit5A | bit6B | bit6C | bit6D | bit6E | bit6H | bit6L | bit6AtHL | bit6A | bit7B
      | bit7C | bit7D | bit7E | bit7H | bit7L | bit7AtHL | bit7A =>
    obtain ⟨_, hd⟩ := of_next (testBit_does _ _ s) h
    exact .of_does hd rfl (by decide)
  case res0B | res0C | res0D | res0E | res0H | res0L | res0AtHL | res0A | res1B | res1C | res1D | res1E
      | res1H | res1L | res1AtHL | res1A | res2B | res2C | res2D | res2E | res2H | res2L | res2AtHL
      | res2A | res3B | res3C | res3D | res3E | res3H | res3L | res3AtHL | res3A | res4B | res4C | res4D
      | res4E | res4H | res4L | res4AtHL | res4A | res5B | res5C | res5D | res5E | res5H | res5L
      | res5AtHL | res5A | res6B | res6C | res6D | res6E | res6H | res6L | res6AtHL | res6A | res7B
      | res7C | res7D | res7E | res7H | res7L | res7AtHL | res7A =>
    obtain ⟨_, hd⟩ := of_next (resetBit_does _ _ s) h
    exact .of_does hd rfl (by decide)
  case set0B | set0C | set0D | set0E | set0H | set0L | set0AtHL | set0A | set1B | set1C | set1D | set1E
      | set1H | set1L | set1AtHL | set1A | set2B | set2C | set2D | set2E | set2H | set2L | set2AtHL
      | set2A | set3B | set3C | set3D | set3E | set3H | set3L | set3AtHL | set3A | set4B | set4C | set4D
      | set4E | set4H | set4L | set4AtHL | set4A | set5B | set5C | set5D | set5E | set5H | set5L
      | set5AtHL | set5A | set6B | set6C | set6D | set6E | set6H | set6L | set6AtHL | set6A | set7B
      | set7C | set7D | set7E | set7H | set7L | set7AtHL | set7A =>
    obtain ⟨_, hd⟩ := of_next (raiseBit_does _ _ s) h
    exact .of_does hd rfl (by decide)
  case jrE | jpNn | jpHL =>
    obtain ⟨_, hd⟩ := of_next (jump_does _ _ s) h
    exact .of_does hd rfl (by decide)
  case jrNZE | jrZE | jrNCE | jrCE | jpNZNn | jpZNn | jpNCNn | jpCNn =>
    obtain ⟨_, hd⟩ := of_next (jumpIf_does _ _ _ _ s) h
    exact .of_does hd rfl (by split <;> decide)
  case rst00 | callNn | rst08 | rst10 | rst18 | rst20 | rst28 | rst30 | rst38 =>
    obtain ⟨_, _, hd⟩ := of_next (call_does _ _ s) h
    exact .of_does hd rfl (by decide)
  case callNZNn | callZNn | callNCNn | callCNn =>
    exact ran_callIf _ _ h rfl rfl
  case ret =>
    obtain ⟨_, _, hd⟩ := of_next (ret_does _ s) h
    exact .of_does hd rfl (by decide)
  case retNZ | retZ | retNC | retC =>
    exact ran_retIf _ h rfl rfl
  case reti =>
    obtain ⟨_, _, _, hd⟩ := of_next (reti_does s) h
    exact .of_does hd rfl (by decide)
  case nop =>
    cases h
    exact .of_does (cycles_does 4 s) rfl (by decide)
  case halt =>
    obtain ⟨_, hd⟩ := of_next (halt_does s) h
    exact .of_does hd rfl (by decide)
  case di =>
    obtain ⟨_, _, hd⟩ := of_next (di_does s) h
    exact .of_does hd rfl (by decide)
  case ei =>
    obtain ⟨_, hd⟩ := of_next (ei_does s) h
    exact .of_does hd rfl (by decide)
  case prefixCB =>
    cases hi
  case stop | undefinedD3 | undefinedDB | undefinedDD | undefinedE3 | undefinedE4 | undefinedEB
      | undefinedEC | undefinedED | undefinedF4 | undefinedFC | undefinedFD =>
    cases h

/-! ### The escape row (R281) -/

theorem exec_rowRot (o : RotOp) (x : R8) (s : State) : exec (rowRot o x) s = rotateR8 o x s := by
  cases x with
  | reg r => cases o <;> cases r <;> rfl
  | atHL => cases o <;> rfl

theorem exec_rowBit (b : Index3) (x : R8) (s : State) : exec (rowBit b x) s = testBit b x s := by
  cases x with
  | reg r => cases b <;> cases r <;> rfl
  | atHL => cases b <;> rfl

theorem exec_rowRes (b : Index3) (x : R8) (s : State) : exec (rowRes b x) s = resetBit b x s := by
  cases x with
  | reg r => cases b <;> cases r <;> rfl
  | atHL => cases b <;> rfl

theorem exec_rowSet (b : Index3) (x : R8) (s : State) : exec (rowSet b x) s = raiseBit b x s := by
  cases x with
  | reg r => cases b <;> cases r <;> rfl
  | atHL => cases b <;> rfl

/-- The escape row runs the extended-table entry of its second byte. -/
theorem exec_prefixCB (op2 : Byte) (s : State) : exec (.prefixCB op2) s = exec (extRow op2) s := by
  show runExtended op2 s = exec (extRow op2) s
  unfold runExtended extRow
  match op2.toNat / 64 with
  | 0 => exact (exec_rowRot _ _ s).symm
  | 1 => exact (exec_rowBit _ _ s).symm
  | 2 => exact (exec_rowRes _ _ s).symm
  | _ + 3 => exact (exec_rowSet _ _ s).symm

/-- No entry of the extended table is the escape row. -/
theorem extRow_wellFormed (op2 : Byte) : (extRow op2).WellFormed := by
  revert op2
  decide

theorem storesOf_of_wellFormed {i : Instr} (hi : i.WellFormed) (s : State) : storesOf i s = ownStores i s := by
  unfold storesOf
  split
  · cases hi
  · rfl

/-- The escape row may change what the entry it runs may change. -/
theorem mayChange_prefixCB (op2 : Byte) : mayChange (.prefixCB op2) = mayChange (extRow op2) := by
  funext p
  cases p with
  | flags => revert op2; decide
  | ime => revert op2; decide
  | imePending => revert op2; decide
  | halted => revert op2; decide
  | _ => rfl

theorem Instr.exists_of_isEscape {i : Instr} (h : i.isEscape = true) : ∃ op2, i = .prefixCB op2 := by
  unfold Instr.isEscape at h
  split at h
  · exact ⟨_, rfl⟩
  · cases h

/-- Everything an instruction that answers a next state can do. -/
theorem exec_ran {i : Instr} {s t : State} (h : exec i s = .next t) : Ran i s t := by
  cases hi : i.isEscape with
  | false => exact ran_of_wellFormed hi h
  | true =>
    obtain ⟨op2, rfl⟩ := Instr.exists_of_isEscape hi
    have hw := extRow_wellFormed op2
    obtain ⟨parts, n, hd, hp, hn⟩ := ran_of_wellFormed hw ((exec_prefixCB op2 s).symm.trans h)
    rw [storesOf_of_wellFormed hw] at hd
    exact .of_does hd (by rwa [mayChange_prefixCB]) hn

/-- Settles O41: the frame of `exec_ran`, at the flags. -/
theorem onlyListedInstructionsWriteFlags : Obligations.OnlyListedInstructionsWriteFlags :=
  fun _ _ _ h hw => (exec_ran h).same (p := .flags) hw

/-! ### What can enable interrupts (R28, R29) -/

theorem mayChange_ime {i : Instr} (hdi : i ≠ .di) (hreti : i ≠ .reti) : mayChange i .ime = false := by
  simp only [mayChange]

theorem mayChange_imePending {i : Instr} (hdi : i ≠ .di) (hei : i ≠ .ei) : mayChange i .imePending = false := by
  simp only [mayChange]

/-- An instruction leaves `IME` set only if it found it set or is `RETI`: `DI` clears it,
every other one keeps it. -/
theorem exec_ime {i : Instr} {s t : State} (h : exec i s = .next t) (ht : t.cpu.ime = true) :
    s.cpu.ime = true ∨ i = .reti := by
  by_cases hdi : i = .di
  · subst hdi
    obtain ⟨hime, -⟩ := of_next (di_does s) h
    cases ht.symm.trans hime
  by_cases hreti : i = .reti
  · exact .inr hreti
  · exact .inl (((exec_ran h).same (mayChange_ime hdi hreti)).symm.trans ht)

/-- An instruction leaves the pending-enable flag set only if it found it set or is `EI`. -/
theorem exec_imePending {i : Instr} {s t : State} (h : exec i s = .next t) (ht : t.cpu.imePending = true) :
    s.cpu.imePending = true ∨ i = .ei := by
  by_cases hdi : i = .di
  · subst hdi
    obtain ⟨-, hpending, -⟩ := of_next (di_does s) h
    cases ht.symm.trans hpending
  by_cases hei : i = .ei
  · exact .inr hei
  · exact .inl (((exec_ran h).same (mayChange_imePending hdi hei)).symm.trans ht)

/-- Phase 1 moves nothing the fetch reads. -/
@[simp] theorem State.consumeEnable_fetched (s : State) : s.consumeEnable.fetched = s.fetched := by
  simp [State.fetched]

@[simp] theorem State.skip_imePending (s : State) (n : Nat) : (s.skip n).cpu.imePending = s.cpu.imePending := rfl

/-- Settles O40: phase 1 moves a pending enable into `IME`, a dispatch clears `IME`, an idle
step keeps both flags, and an instruction sets them only as `exec_ime` and
`exec_imePending` say. -/
theorem onlyEiAndRetiEnable : Obligations.OnlyEiAndRetiEnable := by
  intro s t h
  have consumed : s.consumeEnable.cpu.ime = true → s.cpu.ime = true ∨ s.cpu.imePending = true := by simp
  obtain ⟨-, ⟨src, -, rfl⟩ | ⟨-, -, rfl⟩ | ⟨-, -, u, hu, rfl⟩⟩ := step_cases h
  · obtain ⟨-, -, hime, -, -, hframe, -⟩ := dispatch_does s.consumeEnable src
    have hpending : (s.consumeEnable.dispatch src).cpu.imePending = s.consumeEnable.cpu.imePending :=
      hframe .imePending (by decide)
    simp [hime, hpending]
  · constructor
    · intro ht
      exact (consumed ht).imp_right .inl
    · simp
  · rw [State.consumeEnable_fetched] at hu
    constructor
    · intro ht
      rcases exec_ime hu ht with hs | hreti
      · exact (consumed hs).imp_right .inl
      · exact .inr (.inr hreti)
    · intro ht
      rcases exec_imePending hu ht with hs | hei
      · simp at hs
      · exact hei

end Sys2Proof.Machine

/-!
SUPPORT. The device registers behind the bus (R33 to R36): each is reached from one
address, and writing it changes what that address alone reads.
-/

namespace Sys2Proof.Machine

/-! ### The address of a register -/

/-- The device registers of R33 to R36. -/
def Target.isRegister (t : Target) : Bool :=
  match t with
  | .p1 | .timer _ | .iff | .ppu _ | .ie => true
  | _ => false

/-- A device register is reached from one address only. -/
theorem route_register_inj {a c : Word} (ha : (route a).isRegister = true) (h : route c = route a) : c = a := by
  have home : 0xFF00 ≤ homeOf (route a) ∧ route a ≠ .unusable := by
    cases ht : route a with
    | timer r => cases r <;> simp [homeOf]
    | ppu r => cases r <;> simp [homeOf]
    | _ => simp_all [Target.isRegister, homeOf]
  obtain ⟨hlow, hne⟩ := home
  rcases toNat_of_route (rfl : route a = _) with ea | ea | ⟨-, -, ea⟩
  · rcases toNat_of_route h with ec | ec | ⟨-, -, ec⟩
    · exact BitVec.eq_of_toNat_eq (ec.trans ea.symm)
    · omega
    · exact absurd ec hne
  · omega
  · exact absurd ea hne

/-! ### Reading a register after a write -/

/-- IE and IF keep bits 4:0 and read bits 7:5 as 1 (R33, R34). -/
theorem readBack_low5 (v : Byte) : 0xE0 ||| (v.extractLsb' 0 5).zeroExtend 8 = 0xE0 ||| v := by
  revert v
  decide

/-- TAC keeps bits 2:0 and reads bits 7:3 as 1 (R35). -/
theorem readBack_low3 (v : Byte) : 0xF8 ||| (v.extractLsb' 0 3).zeroExtend 8 = 0xF8 ||| v := by
  revert v
  decide

/-- What a device register reads after a write of `v` (R33 to R36). -/
def Target.readBack (t : Target) (v : Byte) : Byte :=
  match t with
  | .timer .div => 0x00
  | .timer .tac => 0xF8 ||| v
  | .iff | .ie => 0xE0 ||| v
  | _ => v

theorem Timer.read_write_same (t : Timer) (r : TimerReg) (v : Byte) :
    (t.write r v).read r = (Target.timer r).readBack v := by
  cases r with
  | div => exact (by decide : (0 : Word).extractLsb' 8 8 = 0)
  | tac => exact readBack_low3 v
  | _ => rfl

theorem Timer.read_write_other (t : Timer) {r q : TimerReg} (v : Byte) (h : q ≠ r) :
    (t.write r v).read q = t.read q := by
  cases r <;> cases q <;> first | rfl | exact absurd rfl h

theorem Ppu.read_write_same (p : Ppu) (r : PpuReg) (v : Byte) : (p.write r v).read r = v := by
  cases r <;> rfl

theorem Ppu.read_write_other (p : Ppu) {r q : PpuReg} (v : Byte) (h : q ≠ r) :
    (p.write r v).read q = p.read q := by
  cases r <;> cases q <;> first | rfl | exact absurd rfl h

/-- The PPU's position is no register (R36, log 15). -/
@[simp] theorem Ppu.write_line (p : Ppu) (r : PpuReg) (v : Byte) : (p.write r v).line = p.line := by cases r <;> rfl
@[simp] theorem Ppu.write_dot (p : Ppu) (r : PpuReg) (v : Byte) : (p.write r v).dot = p.dot := by cases r <;> rfl

theorem Bus.write_ppu (b : Bus) {a : Word} {r : PpuReg} (v : Byte) (h : route a = .ppu r) :
    b.write a v = { b with ppu := b.ppu.write r v } := by
  simp only [Bus.write, h]

/-- A device register reads back at its own address. -/
theorem Bus.read_write_register_same (b : Bus) {a : Word} (v : Byte) (ha : (route a).isRegister = true) :
    (b.write a v).read a = (route a).readBack v := by
  unfold Bus.write Bus.read
  generalize route a = t at ha ⊢
  cases t with
  | p1 => rfl
  | timer r => exact Timer.read_write_same b.timer r v
  | ppu r => exact Ppu.read_write_same b.ppu r v
  | iff | ie => exact readBack_low5 v
  | _ => cases ha

/-- A write to a device register changes no read that reaches another target. -/
theorem Bus.read_write_register_other (b : Bus) {a c : Word} (v : Byte) (ha : (route a).isRegister = true)
    (hc : route c ≠ route a) : (b.write a v).read c = b.read c := by
  unfold Bus.write Bus.read
  generalize route a = t at ha hc ⊢
  cases t with
  | timer r =>
    cases h : route c with
    | timer q => exact Timer.read_write_other b.timer v fun e => hc (by rw [h, e])
    | _ => rfl
  | ppu r =>
    cases h : route c with
    | ppu q => exact Ppu.read_write_other b.ppu v fun e => hc (by rw [h, e])
    | _ => rfl
  | p1 | iff | ie => cases h : route c <;> first | rfl | exact absurd h hc
  | _ => cases ha

/-- A write to a device register is read at its own address and nowhere else. -/
theorem Bus.read_write_register (b : Bus) {a : Word} {t : Target} (v : Byte) (c : Word) (hr : route a = t)
    (ht : t.isRegister = true) : (b.write a v).read c = if c = a then t.readBack v else b.read c := by
  subst hr
  split
  · next h => rw [h, Bus.read_write_register_same b v ht]
  · next h => exact Bus.read_write_register_other b v ht fun e => h (route_register_inj ht e)

/-- The PPU registers' addresses (R36). -/
theorem route_ppu {a : Word}
    (h : a ∈ ([0xFF40, 0xFF41, 0xFF42, 0xFF43, 0xFF44, 0xFF45, 0xFF47, 0xFF48, 0xFF49, 0xFF4A, 0xFF4B] : List Word)) :
    ∃ r, route a = .ppu r := by
  simp only [List.mem_cons, List.not_mem_nil, or_false] at h
  rcases h with rfl | rfl | rfl | rfl | rfl | rfl | rfl | rfl | rfl | rfl | rfl
  exacts [⟨_, route_FF40⟩, ⟨_, route_FF41⟩, ⟨_, route_FF42⟩, ⟨_, route_FF43⟩, ⟨_, route_FF44⟩, ⟨_, route_FF45⟩,
    ⟨_, route_FF47⟩, ⟨_, route_FF48⟩, ⟨_, route_FF49⟩, ⟨_, route_FF4A⟩, ⟨_, route_FF4B⟩]

/-- Settles O50: each register is read back at its own address and nowhere else
(`Bus.read_write_register`), and the two plain registers are fields of their own. -/
theorem deviceRegisters : Obligations.DeviceRegisters := by
  intro b v c
  refine ⟨b.read_write_register v c route_FFFF rfl, b.read_write_register v c route_FF0F rfl,
    b.read_write_register v c route_FF04 rfl, ?_, b.read_write_register v c route_FF05 rfl,
    b.read_write_register v c route_FF06 rfl, b.read_write_register v c route_FF07 rfl,
    b.read_write_register v c route_FF00 rfl, ?_, fun a ha => ?_⟩
  · simp only [Bus.write, route_FF04, Timer.write]
  · simp only [Bus.write, route_FF00]
  · obtain ⟨r, hr⟩ := route_ppu ha
    have hw := b.write_ppu v hr
    exact ⟨b.read_write_register v c hr rfl, by rw [hw], by simp [hw], by simp [hw]⟩

end Sys2Proof.Machine

/-!
SUPPORT. What a step keeps of the bus (R71, R85, R97): an induction over what a step does
to it, and the frame of writes to plain storage (R63, R95).
-/

namespace Sys2Proof.Machine

/-! ### What a step does to the bus -/

/-- A step clears at most one request bit, makes some bus writes, then lets the
peripherals advance (R97, R303): a property of the bus that each of the three keeps is
kept by every step. -/
theorem step_keeps_bus {P : Bus → Prop} {s t : State} (hack : ∀ b src, P b → P (b.acknowledge src))
    (hwrite : ∀ b a v, P b → P (b.write a v)) (hadvance : ∀ b n, P b → P (b.advance n))
    (h : step s = .next t) (hs : P s.bus) : P t.bus := by
  have hwrites (ws : List (Word × Byte)) : ∀ b, P b → P (writeAll b ws) := by
    induction ws with
    | nil => exact fun _ hb => hb
    | cons w rest ih => exact fun b hb => ih _ (hwrite b w.1 w.2 hb)
  obtain ⟨-, ⟨src, -, rfl⟩ | ⟨-, -, rfl⟩ | ⟨-, -, u, hu, rfl⟩⟩ := step_cases h <;> apply hadvance
  · obtain ⟨-, -, -, -, hbus, -⟩ := dispatch_does s.consumeEnable src
    rw [State.cycles_bus, hbus, State.consumeEnable_bus]
    exact hwrites _ _ (hack _ _ hs)
  · simpa using hs
  · obtain ⟨_, _, hd, -⟩ := exec_ran hu
    simpa [hd.stores] using hwrites _ _ hs

/-- A step that answers a next state leaves the CPU running: only an undefined opcode
stops it, and that answers a fault (R300). -/
theorem step_running {s t : State} (h : step s = .next t) : t.cpu.hardStopped = false := by
  obtain ⟨hrun, ⟨src, -, rfl⟩ | ⟨-, -, rfl⟩ | ⟨-, -, u, hu, rfl⟩⟩ := step_cases h
  · obtain ⟨-, -, -, -, -, hframe, -⟩ := dispatch_does s.consumeEnable src
    have same : (s.consumeEnable.dispatch src).cpu.hardStopped = s.consumeEnable.cpu.hardStopped :=
      hframe .hardStopped (by decide)
    simpa [hrun] using same
  · simpa using hrun
  · have same : u.cpu.hardStopped = s.consumeEnable.cpu.hardStopped := (exec_ran hu).same (p := .hardStopped) rfl
    simpa [hrun] using same

theorem Bus.acknowledge_inv (b : Bus) (src : Source) (h : b.Inv) : (b.acknowledge src).Inv :=
  ⟨h.memWf, h.memWithin, h.cart, h.ppu⟩

/-- Settles O45: the bus's invariant is kept by each thing a step does to the bus. -/
theorem invariantKeptByStep : Obligations.InvariantKeptByStep := fun _ _ hs h =>
  { bus := step_keeps_bus Bus.acknowledge_inv Bus.write_inv Bus.advance_inv h hs.bus
    running := step_running h }

/-! ### The ROM (R38, R71) -/

@[simp] theorem Cartridge.writeRam_romSize (c : Cartridge) (o : Nat) (v : Byte) :
    (c.writeRam o v).romSize = c.romSize := by
  unfold Cartridge.writeRam
  split <;> rfl

@[simp] theorem Cartridge.writeRam_ramSize (c : Cartridge) (o : Nat) (v : Byte) :
    (c.writeRam o v).ramSize = c.ramSize := by
  unfold Cartridge.writeRam
  split <;> rfl

/-- No bus write changes the sizes of the cartridge (R38). -/
theorem Bus.write_sizes (b : Bus) (a : Word) (v : Byte) :
    (b.write a v).cart.romSize = b.cart.romSize ∧ (b.write a v).cart.ramSize = b.cart.ramSize := by
  unfold Bus.write
  split
  case h_2 => exact ⟨Cartridge.writeRam_romSize .., Cartridge.writeRam_ramSize ..⟩
  case h_11 => simp [Bus.writeDma_cart, Bus.dmaCopy_cart]
  all_goals exact ⟨rfl, rfl⟩

theorem Bus.write_romSize (b : Bus) (a : Word) (v : Byte) : (b.write a v).cart.romSize = b.cart.romSize :=
  (b.write_sizes a v).1

theorem Bus.write_ramSize (b : Bus) (a : Word) (v : Byte) : (b.write a v).cart.ramSize = b.cart.ramSize :=
  (b.write_sizes a v).2

/-- Settles O44: no write changes the ROM or the sizes, and nothing else in a step reaches
the cartridge. -/
theorem romIsImmutable : Obligations.RomIsImmutable := by
  intro s t h
  refine step_keeps_bus
    (P := fun b => b.cart.rom = s.bus.cart.rom ∧ b.cart.romSize = s.bus.cart.romSize ∧
      b.cart.ramSize = s.bus.cart.ramSize) ?_ ?_ ?_ h ⟨rfl, rfl, rfl⟩
  · exact fun _ _ hb => hb
  · intro b a v hb
    rwa [Bus.write_rom, Bus.write_romSize, Bus.write_ramSize]
  · intro b n hb
    rwa [(b.advance_same n).2]

/-! ### The frame of an instruction in memory (R63, R95) -/

/-- Writes that land in plain storage leave every byte alone that none of them reaches. -/
theorem writeAll_read_of_storage (ws : List (Word × Byte)) (b : Bus) (a : Word)
    (hs : ∀ w ∈ ws, IsStorage w.1) (ha : ∀ w ∈ ws, route a ≠ route w.1) :
    (writeAll b ws).read a = b.read a := by
  induction ws generalizing b with
  | nil => rfl
  | cons w rest ih =>
    rw [List.forall_mem_cons] at hs ha
    obtain ⟨k, hk⟩ := hs.1
    have hne : route a ≠ .store k := hk ▸ ha.1
    calc (writeAll b (w :: rest)).read a
      _ = (writeAll (b.write w.1 w.2) rest).read a := rfl
      _ = (b.write w.1 w.2).read a := ih _ hs.2 ha.2
      _ = (b.store k w.2).read a := by simp only [Bus.write, hk]
      _ = b.read a := by rw [Bus.read_store, if_neg hne]

/-- Settles O42: the bus writes are those of `exec_ran`, and writes to plain storage leave
the rest alone. -/
theorem memoryFrameOfEveryInstruction : Obligations.MemoryFrameOfEveryInstruction := by
  intro i s t h
  obtain ⟨_, _, hd, -⟩ := exec_ran h
  refine ⟨hd.stores, fun hs a ha => ?_⟩
  rw [hd.stores]
  exact writeAll_read_of_storage _ _ a hs ha

end Sys2Proof.Machine

/-!
SUPPORT. Plain storage as addresses see it (R72 to R81): the echo, reading back a written
byte, and the OAM DMA (R80).
-/

namespace Sys2Proof.Machine

/-! ### Which addresses reach the same byte (R75) -/

/-- An address with the echo window folded onto work RAM (R75). -/
def unechoed (n : Nat) : Nat := if 0xE000 ≤ n ∧ n < 0xFE00 then n - 0x2000 else n

/-- What an address reaches tells the address, up to the echo. -/
theorem homeOf_route_unechoed {a : Word} (h : route a ≠ .unusable) : homeOf (route a) = unechoed a.toNat := by
  unfold unechoed
  rcases toNat_of_route (rfl : route a = _) with e | ⟨h1, h2, e⟩ | ⟨-, -, e⟩
  · split
    · next he => rw [route_echoStore a he.1 he.2]; rfl
    · exact e.symm
  · rw [if_pos ⟨h1, h2⟩, e, Nat.add_sub_cancel]
  · exact absurd e h

/-- An address reaches what its unechoed address reaches (R75). -/
theorem route_unechoed (a : Word) : route a = route (BitVec.ofNat 16 (unechoed a.toNat)) := by
  have ha := a.isLt
  unfold unechoed
  split
  · next he =>
    have e := toNat_address (a.toNat - 0x2000) (by omega)
    rw [route_echoStore a he.1 he.2, route_ram _ (by omega), e]
  · rw [BitVec.ofNat_toNat, BitVec.setWidth_eq]

/-- Two addresses reach the same byte exactly if they agree up to the echo; every unusable
address reaches the same nothing. -/
theorem route_eq_iff {a c : Word} (ha : route a ≠ .unusable) :
    route c = route a ↔ unechoed c.toNat = unechoed a.toNat := by
  constructor
  · intro h
    rw [← homeOf_route_unechoed ha, ← homeOf_route_unechoed (h ▸ ha), h]
  · intro h
    rw [route_unechoed c, h, ← route_unechoed a]

/-! ### Reading back (R72, R74 to R76, R79, R81) -/

/-- A byte that is kept as written and has no effect: plain storage, and the serial
registers (R36, log 26). -/
def Target.keepsByte (t : Target) : Bool :=
  match t with
  | .store _ | .sb | .sc => true
  | _ => false

/-- A byte written where it is kept is read there and nowhere else. -/
theorem Bus.read_write_kept (b : Bus) {a : Word} (v : Byte) (c : Word) (ha : (route a).keepsByte = true) :
    (b.write a v).read c = if route c = route a then v else b.read c := by
  unfold Bus.write
  generalize route a = t at ha ⊢
  cases t with
  | store k => exact b.read_store k v c
  | sb | sc =>
    simp only [Bus.read]
    cases route c <;> simp [Bus.load]
  | _ => cases ha

/-- The bytes of the I/O window that are kept (R36, R79). -/
theorem routeIo_keepsByte {low : Nat}
    (h : 0x01 ≤ low ∧ low < 0x04 ∨ 0x08 ≤ low ∧ low < 0x0F ∨ 0x10 ≤ low ∧ low < 0x40 ∨ 0x4C ≤ low) :
    (routeIo low).keepsByte = true := by
  unfold routeIo
  split
  case h_2 | h_3 | h_21 => rfl
  all_goals omega

/-- The windows in which a byte is kept: video RAM, work RAM and its echo, OAM, the I/O
bytes without a device, high RAM. -/
theorem route_keepsByte {a : Word}
    (h : 0x8000 ≤ a.toNat ∧ a.toNat < 0xA000 ∨ 0xC000 ≤ a.toNat ∧ a.toNat < 0xFEA0 ∨
      0xFF01 ≤ a.toNat ∧ a.toNat < 0xFF04 ∨ 0xFF08 ≤ a.toNat ∧ a.toNat < 0xFF0F ∨
      0xFF10 ≤ a.toNat ∧ a.toNat < 0xFF40 ∨ 0xFF4C ≤ a.toNat ∧ a.toNat < 0xFFFF) :
    (route a).keepsByte = true := by
  by_cases hecho : 0xE000 ≤ a.toNat ∧ a.toNat < 0xFE00
  · rw [route_echoStore a hecho.1 hecho.2]
    rfl
  by_cases hio : 0xFF00 ≤ a.toNat ∧ a.toNat < 0xFF80
  · rw [route_io a (a.toNat - 0xFF00) (by omega) (by omega)]
    exact routeIo_keepsByte (by omega)
  · rw [route_ram a (by omega)]
    rfl

theorem Target.ne_unusable_of_keepsByte {t : Target} (h : t.keepsByte = true) : t ≠ .unusable := by
  rintro rfl
  cases h

/-- An echo address is its work-RAM address to every access (R75). -/
theorem Bus.echo_same (b : Bus) {a : Word} (v : Byte) (h1 : 0xE000 ≤ a.toNat) (h2 : a.toNat < 0xFE00) :
    b.read a = b.read (a - 0x2000) ∧ b.write a v = b.write (a - 0x2000) v := by
  simp only [Bus.read, Bus.write, route_echo a h1 h2, and_self]

/-- The unusable window reads 0xFF and ignores writes (R77). -/
theorem Bus.unusable_window (b : Bus) {a : Word} (v : Byte) (h1 : 0xFEA0 ≤ a.toNat) (h2 : a.toNat < 0xFF00) :
    b.read a = 0xFF ∧ b.write a v = b := by
  simp only [Bus.read, Bus.write, route_unusable a h1 h2, Config.unusableRead, and_self]

/-- Settles O49: in these windows a byte is kept, and is read at the addresses that agree
with its own up to the echo. -/
theorem ramReadAfterWrite : Obligations.RamReadAfterWrite := by
  intro b a c v inRam home
  refine ⟨fun ha => ?_, fun h => b.echo_same v h.1 h.2, fun h => b.unusable_window v h.1 h.2⟩
  have hkept : (route a).keepsByte = true := by
    simp only [inRam, Bool.or_eq_true, decide_eq_true_eq, or_assoc] at ha
    exact route_keepsByte ha
  have hsame : route c = route a ↔ home c.toNat = home a.toNat :=
    route_eq_iff (Target.ne_unusable_of_keepsByte hkept)
  simp only [b.read_write_kept v c hkept, hsame]

/-! ### OAM DMA (R80) -/

theorem route_oam {j : Nat} (h : j < 160) : route (BitVec.ofNat 16 (0xFE00 + j)) = .store (0xFE00 + j) := by
  have e := toNat_address (0xFE00 + j) (by omega)
  rw [route_ram _ (by omega), e]

/-- An OAM byte is reached from its own address alone. -/
theorem toNat_of_route_oam {a : Word} {j : Nat} (hj : j < 160) (h : route a = .store (0xFE00 + j)) :
    a.toNat = 0xFE00 + j := by
  have := route_store_cases a _ h
  omega

/-- A source byte that is itself in OAM is the one it is copied to (R80). -/
theorem eq_of_route_dmaSource {v : Byte} {i j : Nat} (hi : i < 160) (hj : j < 160)
    (h : route (dmaSource v j) = .store (0xFE00 + i)) : j = i := by
  have hv := v.isLt
  have e : (dmaSource v j).toNat = v.toNat * 0x100 + j := toNat_address _ (by omega)
  have := toNat_of_route_oam hi h
  omega

/-- The copy leaves alone every byte but the ones it copies to. -/
theorem Bus.read_dmaCopy_other (b : Bus) (v : Byte) (i count : Nat) (a : Word)
    (h : ∀ j, i ≤ j → j < i + count → route a ≠ .store (0xFE00 + j)) : (b.dmaCopy v i count).read a = b.read a := by
  induction count generalizing b i with
  | zero => rfl
  | succ n ih =>
    have hlater := ih (b.store (0xFE00 + i) (b.read (dmaSource v i))) (i + 1)
      fun j h1 h2 => h j (by omega) (by omega)
    have hfirst : route a ≠ .store (0xFE00 + i) := h i (by omega) (by omega)
    rw [Bus.dmaCopy, hlater, Bus.read_store, if_neg hfirst]

/-- The copy leaves in each OAM byte what its source read before it: no byte is copied to
before it is read. -/
theorem Bus.read_dmaCopy_oam (b : Bus) (v : Byte) (i count j : Nat) (h1 : i ≤ j) (h2 : j < i + count)
    (h : i + count ≤ 160) :
    (b.dmaCopy v i count).read (BitVec.ofNat 16 (0xFE00 + j)) = b.read (dmaSource v j) := by
  induction count generalizing b i with
  | zero => omega
  | succ n ih =>
    rw [Bus.dmaCopy]
    rcases Nat.eq_or_lt_of_le h1 with rfl | hlt
    · rw [Bus.read_dmaCopy_other, Bus.read_store, if_pos (route_oam (by omega))]
      intro k hk _ hroute
      rw [route_oam (by omega)] at hroute
      injection hroute with hroute
      omega
    · have hsource : route (dmaSource v j) ≠ .store (0xFE00 + i) := fun e =>
        Nat.ne_of_gt hlt (eq_of_route_dmaSource (by omega) (by omega) e)
      rw [ih _ _ hlt (by omega) (by omega), Bus.read_store, if_neg hsource]

/-- The DMA register is read at its own address alone. -/
theorem Bus.read_setDma (b : Bus) (v : Byte) (a : Word) :
    (b.setDma v).read a = if route a = .dma then v else b.read a := by
  simp only [Bus.read, Bus.setDma]
  cases route a <;> rfl

theorem route_dma_iff (a : Word) : route a = .dma ↔ a = 0xFF46 := by
  constructor
  · intro h
    have := toNat_of_route h
    simp only [homeOf, reduceCtorEq, and_false, or_false] at this
    exact BitVec.eq_of_toNat_eq (by show a.toNat = 0xFF46; omega)
  · rintro rfl
    exact route_FF46

/-- What each address reads after a write to the DMA trigger. -/
theorem Bus.read_write_dma (b : Bus) (v : Byte) (a : Word) :
    (b.write 0xFF46 v).read a = if a = 0xFF46 then v else (b.dmaCopy v 0 160).read a := by
  simp only [Bus.write, route_FF46, Bus.writeDma, Bus.read_setDma, route_dma_iff]

/-- Settles O51: the copy fills OAM from the bytes before it, and the register keeps `v`. -/
theorem oamDma : Obligations.OamDma := by
  intro b v
  refine ⟨fun i hi => ?_, by rw [b.read_write_dma, if_pos rfl], fun a hout hne => ?_⟩
  · have hne : BitVec.ofNat 16 (0xFE00 + i) ≠ 0xFF46 := fun e => by
      have := congrArg BitVec.toNat e
      rw [toNat_address _ (by omega)] at this
      change 0xFE00 + i = 0xFF46 at this
      omega
    rw [b.read_write_dma, if_neg hne]
    exact b.read_dmaCopy_oam v 0 160 i (by omega) (by omega) (by omega)
  · rw [b.read_write_dma, if_neg hne]
    refine b.read_dmaCopy_other v 0 160 a fun j _ hj e => hout ?_
    have := toNat_of_route_oam (by omega) e
    omega

end Sys2Proof.Machine

/-!
SUPPORT. The cartridge as addresses see it (R71, R73, R85 to R89): one lemma per window,
from which each variant's statement is the controller's own registers and banks.
-/

namespace Sys2Proof.Machine

/-! ### The banks and registers of each controller (R86 to R89) -/

@[simp] theorem Controller.lowBank_fixed : Controller.fixed.lowBank = 0 := rfl
@[simp] theorem Controller.lowBank_simple (m : SimpleBanked) :
    (Controller.simple m).lowBank = if m.mode then m.secondary.toNat * 32 else 0 := rfl
@[simp] theorem Controller.lowBank_rtc (m : RtcBanked) : (Controller.rtc m).lowBank = 0 := rfl
@[simp] theorem Controller.lowBank_extended (m : ExtendedBanked) : (Controller.extended m).lowBank = 0 := rfl
@[simp] theorem Controller.highBank_fixed : Controller.fixed.highBank = 1 := rfl
@[simp] theorem Controller.highBank_simple (m : SimpleBanked) :
    (Controller.simple m).highBank = m.secondary.toNat * 32 + m.low5.toNat := rfl
@[simp] theorem Controller.highBank_rtc (m : RtcBanked) : (Controller.rtc m).highBank = m.romBank.toNat := rfl
@[simp] theorem Controller.highBank_extended (m : ExtendedBanked) :
    (Controller.extended m).highBank = m.romBank.toNat := rfl

@[simp] theorem Controller.write_fixed (a : Nat) (v : Byte) : Controller.fixed.write a v = .fixed := rfl
@[simp] theorem Controller.write_simple (m : SimpleBanked) (a : Nat) (v : Byte) :
    (Controller.simple m).write a v = .simple (m.write a v) := rfl
@[simp] theorem Controller.write_rtc (m : RtcBanked) (a : Nat) (v : Byte) :
    (Controller.rtc m).write a v = .rtc (m.write a v) := rfl
@[simp] theorem Controller.write_extended (m : ExtendedBanked) (a : Nat) (v : Byte) :
    (Controller.extended m).write a v = .extended (m.write a v) := rfl

/-! ### The windows of the cartridge -/

/-- A write to the ROM windows goes to the control registers alone (R71). -/
theorem Bus.write_romWindow (b : Bus) {a : Word} (v : Byte) (h : a.toNat < 0x8000) :
    b.write a v = { b with cart := { b.cart with controller := b.cart.controller.write a.toNat v } } := by
  simp only [Bus.write, route_rom a h, Cartridge.writeRom]

/-- The controller after a write to the ROM windows. -/
theorem Bus.controller_write (b : Bus) {c : Controller} {a : Word} (v : Byte) (hc : b.cart.controller = c)
    (h : a.toNat < 0x8000) : (b.write a v).cart.controller = c.write a.toNat v := by
  rw [b.write_romWindow v h, hc]

/-- The low ROM window reads the controller's low bank, modulo the image (R85). -/
theorem Bus.read_lowWindow (b : Bus) {a : Word} (h : a.toNat < 0x4000) :
    b.read a =
      b.cart.romByte ((b.cart.controller.lowBank * 0x4000 + a.toNat % 0x4000) % b.cart.romSize) := by
  simp only [Bus.read, route_rom a (by omega), Cartridge.readRom, Cartridge.romIndex, Config.romBankSize,
    h, if_true]

/-- The switchable ROM window reads the controller's high bank, modulo the image (R85). -/
theorem Bus.read_highWindow (b : Bus) {a : Word} (h1 : 0x4000 ≤ a.toNat) (h2 : a.toNat < 0x8000) :
    b.read a =
      b.cart.romByte ((b.cart.controller.highBank * 0x4000 + a.toNat % 0x4000) % b.cart.romSize) := by
  simp only [Bus.read, route_rom a h2, Cartridge.readRom, Cartridge.romIndex, Config.romBankSize,
    Nat.not_lt.mpr h1, if_false]

/-- The external-RAM window is open exactly if the latch is set and there is RAM (R85). -/
theorem Cartridge.ramTarget_latched (c : Cartridge) {enable : Bool} {t : RamTarget}
    (h : c.controller.ramTarget = if enable then t else .closed) :
    c.ramTarget = if enable = true ∧ c.ramSize ≠ 0 then t else .closed := by
  by_cases hram : c.ramSize = 0
  · simp [c.ramTarget_noRam hram, hram]
  · simp [c.ramTarget_ram hram, h, hram]

/-- An external-RAM window that a condition opens onto a RAM bank (R85): a byte of the chip
that a write is read back from, else 0xFF and writes ignored. -/
theorem Bus.guarded_window (b : Bus) {a : Word} (v : Byte) {opened : Prop} [Decidable opened] {k : Nat}
    (ht : b.cart.ramTarget = if opened then .bank k else .closed) :
    (0xA000 ≤ a.toNat → a.toNat < 0xC000 →
      b.read a =
        if opened then b.cart.ramByte ((k * 0x2000 + (a.toNat - 0xA000)) % b.cart.ramSize) else 0xFF) ∧
    (0xA000 ≤ a.toNat → a.toNat < 0xC000 → (b.write a v).read a = if opened then v else 0xFF) ∧
    (0xA000 ≤ a.toNat → a.toNat < 0xC000 → ¬ opened → b.write a v = b) := by
  by_cases h : opened
  · rw [if_pos h] at ht
    have window (h1 : 0xA000 ≤ a.toNat) (h2 : a.toNat < 0xC000) := b.bank_window a v k h1 h2 ht
    simp only [if_pos h]
    exact ⟨fun h1 h2 => (window h1 h2).1, fun h1 h2 => (window h1 h2).2, fun _ _ hshut => absurd h hshut⟩
  · rw [if_neg h] at ht
    have window (h1 : 0xA000 ≤ a.toNat) (h2 : a.toNat < 0xC000) := b.closed_window a v h1 h2 ht
    simp only [if_neg h]
    refine ⟨fun h1 h2 => (window h1 h2).1, fun h1 h2 => ?_, fun h1 h2 _ => (window h1 h2).2⟩
    obtain ⟨hread, hwrite⟩ := window h1 h2
    rw [hwrite, hread]

/-! ### Register values in numbers -/

/-- The low `n` bits of a byte. -/
theorem extractLow_eq_ofNat (v : Byte) (n : Nat) : v.extractLsb' 0 n = BitVec.ofNat n v.toNat := rfl

/-- The substitution of bank 1 for bank 0 (R87, R88). -/
theorem bankSubstitution_eq_ofNat (v : Byte) (n : Nat) :
    (if v.extractLsb' 0 n = 0 then 1 else v.extractLsb' 0 n) =
      BitVec.ofNat n (if v.toNat % 2 ^ n = 0 then 1 else v.toNat % 2 ^ n) := by
  have hzero : v.extractLsb' 0 n = 0 ↔ v.toNat % 2 ^ n = 0 := by
    rw [extractLow_eq_ofNat, ← BitVec.toNat_inj]
    simp
  have hmod : BitVec.ofNat n (v.toNat % 2 ^ n) = BitVec.ofNat n v.toNat := by
    simp [← BitVec.toNat_inj]
  rw [apply_ite (BitVec.ofNat n), hmod, ← extractLow_eq_ofNat]
  simp only [hzero]
  rfl

theorem ramEnableOf_eq_decide (v : Byte) : ramEnableOf v = decide (v.toNat % 16 = 0xA) := by
  simp [ramEnableOf, beq_eq_decide]

/-- The low bit of a byte, as the mode of R87. -/
theorem getLsbD_zero_eq_decide (v : Byte) : v.getLsbD 0 = decide (v.toNat % 2 = 1) := by
  simp [BitVec.getLsbD]

/-- The low eight bits of the 9-bit bank replaced (R89). -/
theorem replaceLow8_eq_ofNat (bank : BitVec 9) (v : Byte) :
    bank.extractLsb' 8 1 ++ v = BitVec.ofNat 9 (bank.toNat / 256 * 256 + v.toNat) := by
  have hb := bank.isLt
  have hv := v.isLt
  apply BitVec.eq_of_toNat_eq
  rw [BitVec.toNat_append, BitVec.extractLsb'_toNat, BitVec.toNat_ofNat, ← Nat.shiftLeft_add_eq_or_of_lt hv,
    Nat.shiftLeft_eq, Nat.shiftRight_eq_div_pow]
  omega

/-- Bit 8 of the 9-bit bank replaced (R89). -/
theorem replaceBit8_eq_ofNat (bank : BitVec 9) (v : Byte) :
    v.extractLsb' 0 1 ++ bank.extractLsb' 0 8 = BitVec.ofNat 9 (v.toNat % 2 * 256 + bank.toNat % 256) := by
  apply BitVec.eq_of_toNat_eq
  rw [BitVec.toNat_append, ← Nat.shiftLeft_add_eq_or_of_lt (BitVec.isLt _), BitVec.extractLsb'_toNat,
    BitVec.extractLsb'_toNat, BitVec.toNat_ofNat, Nat.shiftLeft_eq]
  simp only [Nat.shiftRight_zero]
  omega

/-! ### The Fixed cartridge (R86) -/

/-- Settles O52: bank 0 and bank 1 side by side are the image itself, and RAM is bank 0
behind no latch (log 7). -/
theorem fixedCartridge : Obligations.FixedCartridge := by
  intro b a v hc
  refine ⟨fun h => ⟨?_, ?_⟩, fun h1 h2 => ⟨fun hram => ?_, fun hram => ?_⟩⟩
  · by_cases hlow : a.toNat < 0x4000
    · rw [b.read_lowWindow hlow, hc, Controller.lowBank_fixed, Nat.mod_eq_of_lt hlow, Nat.zero_mul, Nat.zero_add]
    · have e : 1 * 0x4000 + a.toNat % 0x4000 = a.toNat := by omega
      rw [b.read_highWindow (by omega) h, hc, Controller.highBank_fixed, e]
  · rw [b.write_romWindow v h, hc, Controller.write_fixed, ← hc]
  · have ht : b.cart.ramTarget = .bank 0 := by rw [b.cart.ramTarget_ram hram, hc, Controller.ramTarget]
    have hw := b.bank_window a v 0 h1 h2 ht
    rwa [Cartridge.ramIndex, Nat.zero_mul, Nat.zero_add] at hw
  · exact b.closed_window a v h1 h2 (b.cart.ramTarget_noRam hram)

/-! ### The Simple banked cartridge (R87) -/

/-- The registers the four write windows set. -/
theorem SimpleBanked.write_enable (m : SimpleBanked) {a : Nat} (v : Byte) (h : a < 0x2000) :
    m.write a v = { m with ramEnable := decide (v.toNat % 16 = 0xA) } := by
  rw [SimpleBanked.write, if_pos h, ramEnableOf_eq_decide]

theorem SimpleBanked.write_low5 (m : SimpleBanked) {a : Nat} (v : Byte) (h1 : 0x2000 ≤ a) (h2 : a < 0x4000) :
    m.write a v = { m with low5 := BitVec.ofNat 5 (if v.toNat % 32 = 0 then 1 else v.toNat % 32) } := by
  simp only [SimpleBanked.write, Nat.not_lt.mpr h1, h2, if_true, if_false, bankSubstitution_eq_ofNat, Nat.reducePow]

theorem SimpleBanked.write_secondary (m : SimpleBanked) {a : Nat} (v : Byte) (h1 : 0x4000 ≤ a) (h2 : a < 0x6000) :
    m.write a v = { m with secondary := BitVec.ofNat 2 v.toNat } := by
  rw [SimpleBanked.write, if_neg (by omega), if_neg (by omega), if_pos h2, extractLow_eq_ofNat]

theorem SimpleBanked.write_mode (m : SimpleBanked) {a : Nat} (v : Byte) (h : 0x6000 ≤ a) :
    m.write a v = { m with mode := decide (v.toNat % 2 = 1) } := by
  rw [SimpleBanked.write, if_neg (by omega), if_neg (by omega), if_neg (by omega), getLsbD_zero_eq_decide]

/-- Settles O53: the write windows by the register each sets, the ROM windows by the
controller's banks, the RAM window by `Bus.guarded_window`. -/
theorem simpleBankedCartridge : Obligations.SimpleBankedCartridge := by
  intro b m a v hc rom
  have ht := b.cart.ramTarget_latched
    (show b.cart.controller.ramTarget =
      if m.ramEnable then .bank (if m.mode then m.secondary.toNat else 0) else .closed by rw [hc]; rfl)
  refine ⟨fun h => ?enable, fun h1 h2 => ?low5, fun h1 h2 => ?secondary, fun h1 h2 => ?mode, fun h => ?low,
    fun h1 h2 => ?high, b.guarded_window v ht⟩
  case enable => rw [b.controller_write v hc (by omega), Controller.write_simple, m.write_enable v h]
  case low5 => rw [b.controller_write v hc (by omega), Controller.write_simple, m.write_low5 v h1 h2]
  case secondary => rw [b.controller_write v hc (by omega), Controller.write_simple, m.write_secondary v h1 h2]
  case mode => rw [b.controller_write v hc h2, Controller.write_simple, m.write_mode v h1]
  case low => rw [b.read_lowWindow h, hc, Controller.lowBank_simple]
  case high => rw [b.read_highWindow h1 h2, hc, Controller.highBank_simple]

/-! ### The Extended banked cartridge (R89) -/

/-- The registers the four write windows set; the bank's two halves are numbers side by
side. -/
theorem ExtendedBanked.write_enable (m : ExtendedBanked) {a : Nat} (v : Byte) (h : a < 0x2000) :
    m.write a v = { m with ramEnable := decide (v.toNat % 16 = 0xA) } := by
  rw [ExtendedBanked.write, if_pos h, ramEnableOf_eq_decide]

theorem ExtendedBanked.write_low8 (m : ExtendedBanked) {a : Nat} (v : Byte) (h1 : 0x2000 ≤ a) (h2 : a < 0x3000) :
    m.write a v = { m with romBank := BitVec.ofNat 9 (m.romBank.toNat / 256 * 256 + v.toNat) } := by
  rw [ExtendedBanked.write, if_neg (by omega), if_pos h2, replaceLow8_eq_ofNat]

theorem ExtendedBanked.write_bit8 (m : ExtendedBanked) {a : Nat} (v : Byte) (h1 : 0x3000 ≤ a) (h2 : a < 0x4000) :
    m.write a v = { m with romBank := BitVec.ofNat 9 (v.toNat % 2 * 256 + m.romBank.toNat % 256) } := by
  rw [ExtendedBanked.write, if_neg (by omega), if_neg (by omega), if_pos h2, replaceBit8_eq_ofNat]

theorem ExtendedBanked.write_ramBank (m : ExtendedBanked) {a : Nat} (v : Byte) (h1 : 0x4000 ≤ a) (h2 : a < 0x6000) :
    m.write a v = { m with ramBank := BitVec.ofNat 4 v.toNat } := by
  rw [ExtendedBanked.write, if_neg (by omega), if_neg (by omega), if_neg (by omega), if_pos h2, extractLow_eq_ofNat]

/-- Settles O55: the windows as O53, the two halves of the bank by `replaceLow8_eq_ofNat` and
`replaceBit8_eq_ofNat`. -/
theorem extendedBankedCartridge : Obligations.ExtendedBankedCartridge := by
  intro b m a v hc rom
  have ht := b.cart.ramTarget_latched
    (show b.cart.controller.ramTarget = if m.ramEnable then .bank m.ramBank.toNat else .closed by rw [hc]; rfl)
  refine ⟨fun h => ?enable, fun h1 h2 => ?low8, fun h1 h2 => ?bit8, fun h1 h2 => ?ramBank, fun h => ?low,
    fun h1 h2 => ?high, b.guarded_window v ht⟩
  case enable => rw [b.controller_write v hc (by omega), Controller.write_extended, m.write_enable v h]
  case low8 => rw [b.controller_write v hc (by omega), Controller.write_extended, m.write_low8 v h1 h2]
  case bit8 => rw [b.controller_write v hc (by omega), Controller.write_extended, m.write_bit8 v h1 h2]
  case ramBank => rw [b.controller_write v hc (by omega), Controller.write_extended, m.write_ramBank v h1 h2]
  case low => rw [b.read_lowWindow h, hc, Controller.lowBank_extended]
  case high => rw [b.read_highWindow h1 h2, hc, Controller.highBank_extended]

/-! ### The RTC-backed cartridge (R88) -/

/-- The registers the first three write windows set. -/
theorem RtcBanked.write_enable (m : RtcBanked) {a : Nat} (v : Byte) (h : a < 0x2000) :
    m.write a v = { m with ramEnable := decide (v.toNat % 16 = 0xA) } := by
  rw [RtcBanked.write, if_pos h, ramEnableOf_eq_decide]

theorem RtcBanked.write_romBank (m : RtcBanked) {a : Nat} (v : Byte) (h1 : 0x2000 ≤ a) (h2 : a < 0x4000) :
    m.write a v = { m with romBank := BitVec.ofNat 7 (if v.toNat % 128 = 0 then 1 else v.toNat % 128) } := by
  simp only [RtcBanked.write, Nat.not_lt.mpr h1, h2, if_true, if_false, bankSubstitution_eq_ofNat, Nat.reducePow]

theorem RtcBanked.write_select (m : RtcBanked) {a : Nat} (v : Byte) (h1 : 0x4000 ≤ a) (h2 : a < 0x6000) :
    m.write a v = { m with select := clockSelectOf m.select v } := by
  rw [RtcBanked.write, if_neg (by omega), if_neg (by omega), if_pos h2]

theorem RtcBanked.write_latch (m : RtcBanked) {a : Nat} (v : Byte) (h : 0x6000 ≤ a) :
    m.write a v = m.writeLatch v := by
  rw [RtcBanked.write, if_neg (by omega), if_neg (by omega), if_neg (by omega)]

/-- The listed values of the select window (R88). -/
theorem clockSelectOf_ramBank (before : ClockSelect) {v : Byte} {k : Fin 4} (h : v.toNat = k.val) :
    clockSelectOf before v = .ramBank k := by
  unfold clockSelectOf
  rw [h]
  fin_cases k <;> rfl

theorem clockSelectOf_clock (before : ClockSelect) {v : Byte} {r : Fin 5} (h : v.toNat = 8 + r.val) :
    clockSelectOf before v = .clock r := by
  unfold clockSelectOf
  rw [h]
  fin_cases r <;> rfl

/-- The registers after a latch sequence: both copies hold the clock as it now is. -/
def RtcBanked.afterLatch (m : RtcBanked) : RtcBanked :=
  { m with
    live := m.live.now m.latches
    latched := m.live.now m.latches
    latches := m.latches + 1
    latchArmed := false }

/-- 0x00 arms the latch and 0x01 completes it, whatever was written before (R88). -/
theorem RtcBanked.writeLatch_sequence (m : RtcBanked) : (m.writeLatch 0x00).writeLatch 0x01 = m.afterLatch := by
  have harm : m.writeLatch 0x00 = { m with latchArmed := true } := by
    rw [RtcBanked.writeLatch, show (m.latchArmed && (0x00 : Byte) == 0x01) = false by simp]
    rfl
  rw [harm]
  rfl

/-- A latch sequence through one address of the latch window. -/
theorem Bus.controller_latch_sequence (b : Bus) {m : RtcBanked} {w : Word} (hc : b.cart.controller = .rtc m)
    (h1 : 0x6000 ≤ w.toNat) (h2 : w.toNat < 0x8000) :
    ((b.write w 0x00).write w 0x01).cart.controller = .rtc m.afterLatch := by
  rw [Bus.controller_write _ 0x01 (b.controller_write 0x00 hc h2) h2, Controller.write_rtc, Controller.write_rtc,
    RtcBanked.write_latch _ _ h1, RtcBanked.write_latch _ _ h1, m.writeLatch_sequence]

/-- An external-RAM window that reaches a clock register reads the latched copy; a write
goes to the live one (R88). -/
theorem Bus.clock_window (b : Bus) {m : RtcBanked} {a : Word} (v : Byte) {r : Fin 5}
    (hc : b.cart.controller = .rtc m) (henable : m.ramEnable = true) (hram : b.cart.ramSize ≠ 0)
    (hselect : m.select = .clock r) (h1 : 0xA000 ≤ a.toNat) (h2 : a.toNat < 0xC000) :
    b.read a = m.latched.get r ∧
      (b.write a v).cart = { b.cart with controller := .rtc { m with live := m.live.set r v } } := by
  have ht : b.cart.ramTarget = .clock r := by
    simp only [b.cart.ramTarget_ram hram, hc, Controller.ramTarget, henable, hselect, if_true]
  constructor
  · simp only [Bus.read, route_cartRam a h1 h2, Cartridge.readRam, ht, hc, Controller.latchedClock]
  · simp only [Bus.write, route_cartRam a h1 h2, Cartridge.writeRam, ht, hc, Controller.writeClock]

/-- Settles O54: the windows as O53; after a latch sequence the selected register reads the
snapshot, and a write through the window reaches the live copy alone. -/
theorem rtcBankedCartridge : Obligations.RtcBankedCartridge := by
  intro b m a v hc rom
  refine ⟨fun h => ?enable, fun h1 h2 => ?romBank, fun h1 h2 => ⟨fun k hk => ?bank, fun r hr => ?clock⟩,
    fun h => ?low, fun h1 h2 => ?high, fun h1 h2 k hk => ?bankWindow, fun h1 h2 hclosed => ?closed,
    fun h1 h2 henable hram r hselect w hw1 hw2 => ?latch⟩
  case enable => rw [b.controller_write v hc (by omega), Controller.write_rtc, m.write_enable v h]
  case romBank => rw [b.controller_write v hc (by omega), Controller.write_rtc, m.write_romBank v h1 h2]
  case bank =>
    rw [b.controller_write v hc (by omega), Controller.write_rtc, m.write_select v h1 h2,
      clockSelectOf_ramBank _ hk]
  case clock =>
    rw [b.controller_write v hc (by omega), Controller.write_rtc, m.write_select v h1 h2,
      clockSelectOf_clock _ hr]
  case low => rw [b.read_lowWindow h, hc, Controller.lowBank_rtc]
  case high => rw [b.read_highWindow h1 h2, hc, Controller.highBank_rtc]
  case bankWindow =>
    have ht := b.cart.ramTarget_latched
      (show b.cart.controller.ramTarget = if m.ramEnable then .bank k.val else .closed by
        simp only [hc, Controller.ramTarget, hk])
    obtain ⟨hread, hback, -⟩ := b.guarded_window v ht
    exact ⟨hread h1 h2, hback h1 h2⟩
  case closed =>
    have ht := b.cart.ramTarget_latched
      (show b.cart.controller.ramTarget = if m.ramEnable then b.cart.controller.ramTarget else .closed by
        cases he : m.ramEnable <;> simp [hc, Controller.ramTarget, he])
    rw [if_neg hclosed] at ht
    exact b.closed_window a v h1 h2 ht
  case latch =>
    intro snapshot latched
    have hlatched : latched.cart.controller = .rtc m.afterLatch := b.controller_latch_sequence hc hw1 hw2
    have hsize : latched.cart.ramSize ≠ 0 := by
      rwa [Bus.write_ramSize, Bus.write_ramSize]
    obtain ⟨hread, hwritten⟩ := latched.clock_window v hlatched henable hsize hselect h1 h2
    have hcontroller := congrArg Cartridge.controller hwritten
    have hsize' : (latched.write a v).cart.ramSize ≠ 0 := by rwa [Bus.write_ramSize]
    exact ⟨(b.clock_window v hc henable hram hselect h1 h2).1, hread,
      ((latched.write a v).clock_window v hcontroller henable hsize' hselect h1 h2).1, _, hcontroller, rfl, rfl⟩

end Sys2Proof.Machine

/-!
SUPPORT. The decoder against the encoder (R110 to R123): both are read row by row, a row
of the main table filled with an operand.
-/

namespace Sys2Proof

open Machine

/-! ### A row and its operand (R112) -/

/-- The instruction a row makes of the operand `w`, of which a one-byte operand is the low
byte. -/
@[simp] def Row.fill (r : Row) (w : Word) : Instr :=
  match r with
  | .f1 i => i
  | .f2 mk => mk (loByte w)
  | .f3 mk => mk w

/-- The bytes of the operand `w` after the opcode, little-endian (R112). -/
@[simp] def Row.operandBytes (r : Row) (w : Word) : List Byte :=
  match r with
  | .f1 _ => []
  | .f2 _ => [loByte w]
  | .f3 _ => [loByte w, hiByte w]

@[simp] theorem wordOfBytes_eq_pairOf (lo hi : Byte) : wordOfBytes lo hi = pairOf hi lo := rfl

/-- A row followed by the bytes of its operand decodes to the row filled with it. -/
theorem decode_fill (op : Byte) (w : Word) (rest : List Byte) :
    decode (op :: (mainRow op).operandBytes w ++ rest) = .ok ((mainRow op).fill w, rest) := by
  cases hrow : mainRow op <;> simp [decode, hrow]

/-- Only a row followed by the bytes of an operand decodes. -/
theorem exists_fill_of_decode {bytes rest : List Byte} {i : Instr} (h : decode bytes = .ok (i, rest)) :
    ∃ op w, bytes = op :: (mainRow op).operandBytes w ++ rest ∧ i = (mainRow op).fill w := by
  cases bytes with
  | nil => cases h
  | cons op tail =>
    refine ⟨op, ?_⟩
    simp only [decode] at h
    split at h
    case h_1 hrow =>
      cases h
      exact ⟨0, by simp [hrow]⟩
    case h_2 n _ hrow =>
      cases h
      exact ⟨pairOf 0 n, by simp [hrow]⟩
    case h_3 lo hi _ hrow =>
      cases h
      exact ⟨pairOf hi lo, by simp [hrow]⟩
    case h_4 => cases h

/-! ### The encoder writes what the rows read (R116, R120) -/

/-- The field values of the extended table against its byte values (R120). -/
theorem encode_extRow (op2 : Byte) : encode (extRow op2) = [0xCB, op2] := by
  revert op2
  decide

/-- The field values of the main table against its byte values (R116): the escape row is
the extended table, every other row is evaluated. -/
theorem encode_fill (op : Byte) (w : Word) :
    encode ((mainRow op).fill w) = op :: (mainRow op).operandBytes w ∧ ((mainRow op).fill w).WellFormed := by
  by_cases hescape : op = 0xCB
  · subst hescape
    exact ⟨encode_extRow (loByte w), extRow_wellFormed (loByte w)⟩
  · obtain ⟨k, _, rfl⟩ : ∃ k < 256, op = BitVec.ofNat 8 k := ⟨op.toNat, op.isLt, by simp⟩
    have hne : k ≠ 0xCB := fun hk => hescape (by rw [hk]; rfl)
    rcases hne.lt_or_gt with hbelow | habove
    · interval_cases k <;> exact ⟨rfl, rfl⟩
    · interval_cases k <;> exact ⟨rfl, rfl⟩

/-- Settles O3: the bytes are a row's and its operand's, which is what the encoder writes. -/
theorem decodedBytesAreTheEncoding : Obligations.DecodedBytesAreTheEncoding := by
  intro bytes i rest h
  obtain ⟨op, w, rfl, rfl⟩ := exists_fill_of_decode h
  obtain ⟨hencode, hwf⟩ := encode_fill op w
  exact ⟨by rw [hencode], hwf⟩

/-- Settles O2: a 16-bit operand is cut into bytes and joined again (`decode_fill`); every
other instruction's bytes are its row's as they stand, and the escape row is not
well-formed. -/
theorem decodeEncodeRoundTrip : Obligations.DecodeEncodeRoundTrip := by
  intro i rest hwf
  cases i
  case ldBCNn nn | ldDENn nn | ldHLNn nn | ldSPNn nn | ldAtNnSP nn | ldAtNnA nn | ldAAtNn nn
      | jpNn nn | jpNZNn nn | jpZNn nn | jpNCNn nn | jpCNn nn
      | callNn nn | callNZNn nn | callZNn nn | callNCNn nn | callCNn nn =>
    exact decode_fill _ nn rest
  case prefixCB => cases hwf
  all_goals rfl

/-- What decodes to an instruction is its encoding: O2 and O3 in one. -/
theorem decode_eq_ok_iff {bytes rest : List Byte} {i : Instr} :
    decode bytes = .ok (i, rest) ↔ encode i ++ rest = bytes ∧ i.WellFormed := by
  constructor
  · exact decodedBytesAreTheEncoding bytes i rest
  · rintro ⟨rfl, hwf⟩
    exact decodeEncodeRoundTrip i rest hwf

/-! ### Length (R110) -/

/-- Any three bytes decode, to what the fetch window reads. -/
theorem decode_three (b0 b1 b2 : Byte) :
    decode [b0, b1, b2] =
      .ok ((decodeWindow b0 b1 b2).1, [b0, b1, b2].drop (decodeWindow b0 b1 b2).2) := by
  cases hrow : mainRow b0 <;> simp [decode, decodeWindow, Row.finish, hrow]

/-- The first byte alone decides the length. -/
theorem decodeWindow_length_congr (b0 b1 b2 c1 c2 : Byte) :
    (decodeWindow b0 c1 c2).2 = (decodeWindow b0 b1 b2).2 := by
  unfold decodeWindow
  cases mainRow b0 <;> rfl

theorem decodeWindow_length_bounds (b0 b1 b2 : Byte) :
    1 ≤ (decodeWindow b0 b1 b2).2 ∧ (decodeWindow b0 b1 b2).2 ≤ 3 := by
  cases hrow : mainRow b0 <;> simp [decodeWindow, Row.finish, hrow]

/-- After the escape byte the second byte is looked up in the extended table. -/
theorem decodeWindow_escape (op2 b2 : Byte) : decodeWindow 0xCB op2 b2 = (extRow op2, 2) := rfl

theorem decode_escape (op2 : Byte) (rest : List Byte) :
    decode (0xCB :: op2 :: rest) = .ok (extRow op2, rest) := rfl

/-- Settles O4: the length is that of the first byte's row, and the row of 0xCB is the
extended table. -/
theorem firstByteDecidesLength : Obligations.FirstByteDecidesLength := by
  intro b0 b1 b2
  obtain ⟨hmin, hmax⟩ := decodeWindow_length_bounds b0 b1 b2
  refine ⟨_, _, decode_three b0 b1 b2, hmin, hmax, fun c1 c2 => ⟨(decodeWindow b0 c1 c2).1, ?_⟩, ?_⟩
  · rw [decode_three, decodeWindow_length_congr b0 b1 b2 c1 c2]
  · rintro rfl
    rw [decodeWindow_escape]
    exact ⟨rfl, fun c2 => decode_escape b1 [c2]⟩

/-! ### Sample words -/

/-- Settles O1: each word is the encoding of its instruction, so it decodes to it. -/
theorem sampleWordsDecode : Obligations.SampleWordsDecode := by
  unfold Obligations.SampleWordsDecode
  and_intros <;> exact decode_eq_ok_iff.mpr ⟨rfl, rfl⟩

end Sys2Proof

/-!
SUPPORT. The 8-bit loads (R140 to R158): each instruction is one shared meaning, whose
lemma gives its result, its frame and its cycles.
-/

namespace Sys2Proof.Machine

/-! ### Completion (R12) -/

/-- An instruction completes by what its meaning does. -/
theorem Completes.of_does {i : Instr} {bytes : List Byte} {parts : List Part} {n : Nat}
    {ws : List (Word × Byte)} {s t : State} {post : State → Prop} (hbytes : encode i = bytes)
    (hexec : exec i s = .next t) (hd : Does parts n ws s t) (hpost : post t) :
    Completes i bytes parts n s post :=
  ⟨hbytes, t, hexec, hd.frame, hd.took, hpost⟩

/-- The bytes of an instruction with a 16-bit operand, low byte first (R112). -/
theorem encode_word {i : Instr} {op hi lo : Byte}
    (h : encode i = [op, loByte (pairOf hi lo), hiByte (pairOf hi lo)]) : encode i = [op, lo, hi] := by
  rwa [loByte_pairOf, hiByte_pairOf] at h

/-! ### Rows of R140 to R143 -/

/-- The block `x = 1`, `01 y z` (R113, R116). -/
theorem encode_rowLd (y z : R8) : encode (rowLd y z) = [BitVec.ofNat 8 (0x40 + 8 * y.code + z.code)] := by
  cases y with
  | reg dst =>
    cases z with
    | reg src => cases dst <;> cases src <;> rfl
    | atHL => cases dst <;> rfl
  | atHL =>
    cases z with
    | reg r => cases r <;> rfl
    | atHL => rfl

/-- `00 y 110` and the operand byte (R113, R116). -/
theorem encode_rowLdN (y : R8) (n : Byte) : encode (rowLdN y n) = [BitVec.ofNat 8 (0x06 + 8 * y.code), n] := by
  cases y with
  | reg dst => cases dst <;> rfl
  | atHL => rfl

theorem exec_rowLd_reg_reg (dst src : Reg) (s : State) :
    exec (rowLd (.reg dst) (.reg src)) s = ldRegReg dst src s := by
  cases dst <;> cases src <;> rfl

theorem exec_rowLd_reg_atHL (dst : Reg) (s : State) : exec (rowLd (.reg dst) .atHL) s = ldRegAtHL dst s := by
  cases dst <;> rfl

theorem exec_rowLd_atHL_reg (r : Reg) (s : State) : exec (rowLd .atHL (.reg r)) s = ldAtHLReg r s := by
  cases r <;> rfl

theorem exec_rowLdN_reg (dst : Reg) (n : Byte) (s : State) : exec (rowLdN (.reg dst) n) s = ldRegN dst n s := by
  cases dst <;> rfl

/-- Settles O5: every row is one of the three register loads, whatever the registers. -/
theorem loadRegister : Obligations.LoadRegister := by
  intro dst src n s
  obtain ⟨_, hreg, hregPost, hregDoes⟩ := ldRegReg_does dst src s
  obtain ⟨_, himm, himmPost, himmDoes⟩ := ldRegN_does dst n s
  obtain ⟨_, hmem, hmemPost, hmemDoes⟩ := ldRegAtHL_does dst s
  have hopcode : 0x40 + 8 * dst.code + 6 = 0x46 + 8 * dst.code := by omega
  exact ⟨.of_does (encode_rowLd _ _) ((exec_rowLd_reg_reg dst src s).trans hreg) hregDoes hregPost,
    .of_does (encode_rowLdN _ n) ((exec_rowLdN_reg dst n s).trans himm) himmDoes himmPost,
    .of_does (hopcode ▸ encode_rowLd (.reg dst) .atHL) ((exec_rowLd_reg_atHL dst s).trans hmem) hmemDoes
      hmemPost⟩

/-- Settles O6: both forms are one store at `HL`, the source read before it. -/
theorem storeRegisterOrImmediate : Obligations.StoreRegisterOrImmediate := by
  intro r n s
  obtain ⟨_, hreg, hregDoes⟩ := ldAtHLReg_does r s
  have himmDoes := store_does s.cpu.hl n 12 s
  exact ⟨.of_does (encode_rowLd .atHL (.reg r)) ((exec_rowLd_atHL_reg r s).trans hreg) hregDoes hregDoes.stores,
    .of_does rfl rfl himmDoes himmDoes.stores⟩

/-! ### Loads and stores of A (R145 to R154) -/

/-- The effective address of the high page, in numbers (R159). -/
theorem highPage_eq_highAddress (n : Byte) : highPage n = highAddress n := by
  rw [highAddress, BitVec.ofNat_add, BitVec.ofNat_toNat]
  rfl

theorem completes_loadA {i : Instr} {bytes : List Byte} {a : Word} {cost : Nat} {s : State}
    (hbytes : encode i = bytes) (hexec : exec i s = loadA a cost s) :
    Completes i bytes [.reg .a] cost s fun t => t.cpu.a = s.bus.read a := by
  obtain ⟨_, hnext, hpost, hd⟩ := loadA_does a cost s
  exact .of_does hbytes (hexec.trans hnext) hd hpost

theorem completes_storeA {i : Instr} {bytes : List Byte} {a : Word} {cost : Nat} {s : State}
    (hbytes : encode i = bytes) (hexec : exec i s = storeA a cost s) :
    Completes i bytes [.bus] cost s fun t => t.bus = s.bus.write a s.cpu.a := by
  obtain ⟨_, hnext, hd⟩ := storeA_does a cost s
  exact .of_does hbytes (hexec.trans hnext) hd hd.stores

/-- Settles O7: the five addresses of R159, one meaning. -/
theorem loadAccumulator : Obligations.LoadAccumulator := by
  intro n lo hi s
  rw [← highPage_eq_highAddress, ← highPage_eq_highAddress]
  exact ⟨completes_loadA rfl rfl, completes_loadA rfl rfl, completes_loadA (encode_word rfl) rfl,
    completes_loadA rfl rfl, completes_loadA rfl rfl⟩

/-- Settles O8: the five addresses of R159, one meaning. -/
theorem storeAccumulator : Obligations.StoreAccumulator := by
  intro n lo hi s
  rw [← highPage_eq_highAddress, ← highPage_eq_highAddress]
  exact ⟨completes_storeA rfl rfl, completes_storeA rfl rfl, completes_storeA (encode_word rfl) rfl,
    completes_storeA rfl rfl, completes_storeA rfl rfl⟩

/-! ### The forms that move HL (R155 to R158) -/

theorem completes_storeAMoveHL {i : Instr} {bytes : List Byte} {step : Word} {s : State}
    (hbytes : encode i = bytes) (hexec : exec i s = storeAMoveHL step s) :
    Completes i bytes [.reg .h, .reg .l, .bus] 8 s fun t =>
      t.bus = s.bus.write s.cpu.hl s.cpu.a ∧ t.cpu.hl.toNat = (s.cpu.hl.toNat + step.toNat) % 0x10000 := by
  obtain ⟨_, hnext, hhl, hd⟩ := storeAMoveHL_does step s
  exact .of_does hbytes (hexec.trans hnext) hd ⟨hd.stores, by rw [hhl, BitVec.toNat_add]⟩

theorem completes_loadAMoveHL {i : Instr} {bytes : List Byte} {step : Word} {s : State}
    (hbytes : encode i = bytes) (hexec : exec i s = loadAMoveHL step s) :
    Completes i bytes [.reg .a, .reg .h, .reg .l] 8 s fun t =>
      t.cpu.a = s.bus.read s.cpu.hl ∧ t.cpu.hl.toNat = (s.cpu.hl.toNat + step.toNat) % 0x10000 := by
  obtain ⟨_, hnext, hhl, ha, hd⟩ := loadAMoveHL_does step s
  exact .of_does hbytes (hexec.trans hnext) hd ⟨ha, by rw [hhl, BitVec.toNat_add]⟩

/-- Settles O9: one less modulo 2^16 is adding the word -1, which is 0xFFFF. -/
theorem loadAndStoreMovingHL : Obligations.LoadAndStoreMovingHL := by
  intro s
  exact ⟨completes_storeAMoveHL (step := 1) rfl rfl, completes_loadAMoveHL (step := 1) rfl rfl,
    completes_storeAMoveHL (step := -1) rfl rfl, completes_loadAMoveHL (step := -1) rfl rfl⟩

end Sys2Proof.Machine

/-!
SUPPORT. The 16-bit loads and the stack (R170 to R176), and `ADD SP,e` (R223), which
shares the sum and the flags of `LD HL,SP+e`.
-/

namespace Sys2Proof.Machine

/-! ### Rows of R114 -/

/-- `00 pp 0001` and the operand word (R114, R116). -/
theorem encode_rowLdRP (p : RP) (hi lo : Byte) :
    encode (rowLdRP p (pairOf hi lo)) = [BitVec.ofNat 8 (0x01 + 16 * p.code), lo, hi] := by
  cases p <;> exact encode_word rfl

/-- `11 pp 0101` (R114, R116). -/
theorem encode_rowPush (p : RP2) : encode (rowPush p) = [BitVec.ofNat 8 (0xC5 + 16 * p.code)] := by
  cases p <;> rfl

/-- `11 pp 0001` (R114, R116). -/
theorem encode_rowPop (p : RP2) : encode (rowPop p) = [BitVec.ofNat 8 (0xC1 + 16 * p.code)] := by
  cases p <;> rfl

theorem exec_rowLdRP (p : RP) (nn : Word) (s : State) : exec (rowLdRP p nn) s = ldRPN p nn s := by
  cases p <;> rfl

theorem exec_rowPush (p : RP2) (s : State) : exec (rowPush p) s = pushRP2 p s := by
  cases p <;> rfl

theorem exec_rowPop (p : RP2) (s : State) : exec (rowPop p) s = popRP2 p s := by
  cases p <;> rfl

/-! ### Loads and stores of a pair (R170 to R172) -/

/-- Settles O10: every pair is one meaning, and `HL` is its halves `H` and `L`. -/
theorem loadPair : Obligations.LoadPair := by
  intro p lo hi s
  obtain ⟨_, hpair, hpairPost, hpairDoes⟩ := ldRPN_does p (pairOf hi lo) s
  obtain ⟨_, hsp, hspPost, hspDoes⟩ := ldSPHL_does s
  exact ⟨.of_does (encode_rowLdRP p hi lo) ((exec_rowLdRP p _ s).trans hpair) hpairDoes hpairPost,
    .of_does rfl hsp hspDoes hspPost⟩

/-- The next address modulo 2^16, in numbers. -/
theorem ofNat_toNat_succ (a : Word) : BitVec.ofNat 16 (a.toNat + 1) = a + 1 := by
  rw [BitVec.ofNat_add, BitVec.ofNat_toNat, BitVec.setWidth_eq]
  rfl

/-- Settles O11: the two stores of `storeSP`, the second address in numbers. -/
theorem storeStackPointer : Obligations.StoreStackPointer := by
  intro lo hi s
  obtain ⟨_, hnext, hd⟩ := storeSP_does (pairOf hi lo) s
  rw [ofNat_toNat_succ]
  exact .of_does (encode_word rfl) hnext hd hd.stores

/-! ### `SP` plus a displacement (R173, R223) -/

/-- `SP + sext_16(e)` is the sum of the integers, modulo 2^16. -/
theorem spPlus_eq_ofInt (sp : Word) (e : Byte) : spPlus sp e = BitVec.ofInt 16 (sp.toNat + e.toInt) := by
  rw [BitVec.ofInt_add, BitVec.ofInt_natCast, BitVec.ofNat_toNat, BitVec.setWidth_eq]
  rfl

/-- Settles O12: both instructions write `spPlus` and `spPlusFlags`. -/
theorem stackPointerPlusDisplacement : Obligations.StackPointerPlusDisplacement := by
  intro e s sum flags
  have hsum : spPlus s.cpu.sp e = sum := spPlus_eq_ofInt s.cpu.sp e
  obtain ⟨_, hld, hhl, hldFlags, hldDoes⟩ := ldHLSPE_does e s
  obtain ⟨_, hadd, hsp, haddFlags, haddDoes⟩ := addSPE_does e s
  exact ⟨.of_does rfl hld hldDoes ⟨hhl.trans hsum, hldFlags⟩,
    .of_does rfl hadd haddDoes ⟨hsp.trans hsum, haddFlags⟩⟩

/-! ### The stack (R175, R176) -/

/-- `PackF`, bit by bit (R26). -/
theorem packF_eq_append (f : Flags) :
    packF f =
      BitVec.ofBool f.z ++ BitVec.ofBool f.n ++ BitVec.ofBool f.h ++ BitVec.ofBool f.c ++ (0 : BitVec 4) := by
  obtain ⟨z, n, h, c⟩ := f
  revert z n h c
  decide

/-- `Push16` of two halves stores each half as it is (R11). -/
theorem pushStores_pairOf (s : State) (hi lo : Byte) :
    pushStores s (pairOf hi lo) = [(s.cpu.sp - 1, hi), (s.cpu.sp - 2, lo)] := by
  rw [pushStores, hiByte_pairOf, loByte_pairOf]

/-- Settles O13: the pair is its two halves, the low half of `AF` the packed flags. -/
theorem pushPair : Obligations.PushPair := by
  intro p s f packed halves
  have hpair : s.cpu.getRP2 p = pairOf halves.1 halves.2 := by
    cases p with
    | af => exact congrArg (pairOf s.cpu.a) (packF_eq_append f)
    | bc | de | hl => rfl
  obtain ⟨_, hnext, hsp, hd⟩ := pushRP2_does p s
  rw [hpair, pushStores_pairOf] at hd
  exact .of_does (encode_rowPush p) ((exec_rowPush p s).trans hnext) hd ⟨hsp, hd.stores⟩

/-- Equal pairs have equal halves. -/
theorem pairOf_inj {x y x' y' : Byte} : pairOf x y = pairOf x' y' ↔ x = x' ∧ y = y' := by
  constructor
  · intro h
    exact ⟨by simpa using congrArg hiByte h, by simpa using congrArg loByte h⟩
  · rintro ⟨rfl, rfl⟩
    rfl

/-- Settles O14: a pair other than `AF` gets both bytes as they are, `AF` the flags of the
low byte. -/
theorem popPair : Obligations.PopPair := by
  intro p s lo hi
  obtain ⟨_, hnext, hpair, haf, hsp, hd⟩ := popRP2_does p s
  refine .of_does (encode_rowPop p) ((exec_rowPop p s).trans hnext) hd ⟨hsp, ?_⟩
  rw [popValue_eq, hiByte_pairOf, loByte_pairOf] at haf
  rw [popValue_eq] at hpair
  cases p with
  | af => exact haf rfl
  | bc | de | hl => exact pairOf_inj.mp (hpair nofun)

theorem IsStorage.keepsByte {a : Word} (h : IsStorage a) : (route a).keepsByte = true := by
  obtain ⟨k, hk⟩ := h
  rw [hk]
  rfl

/-- `Pop16` after `Push16` gives the value back (R11): neither store falls on the other
byte. -/
theorem popValue_of_pushStores {s t : State} {v : Word} (hsp : t.cpu.sp = s.cpu.sp - 2)
    (hbus : t.bus = writeAll s.bus (pushStores s v)) (hhi : IsStorage (s.cpu.sp - 1))
    (hlo : IsStorage (s.cpu.sp - 2)) (hne : route (s.cpu.sp - 1) ≠ route (s.cpu.sp - 2)) : t.popValue = v := by
  have hnext : s.cpu.sp - 2 + 1 = s.cpu.sp - 1 := by bv_omega
  have hread (a : Word) :
      t.bus.read a =
        if route a = route (s.cpu.sp - 2) then loByte v
        else if route a = route (s.cpu.sp - 1) then hiByte v else s.bus.read a := by
    rw [hbus, ← Bus.read_write_kept _ _ _ hhi.keepsByte, ← Bus.read_write_kept _ _ _ hlo.keepsByte]
    rfl
  rw [popValue_eq, hsp, hnext, hread, hread, if_neg hne, if_pos rfl, if_pos rfl, pairOf_hi_lo]

/-- `POP rr` of a value that is the pair's own restores the pair, and the flags: `POP AF`
unpacks the packed flags (R26), the others leave them. -/
theorem popRP2_restores (p : RP2) {s t : State} (hpop : t.popValue = s.cpu.getRP2 p)
    (hflags : t.cpu.flags = s.cpu.flags) :
    ∃ u, popRP2 p t = .next u ∧ u.cpu.getRP2 p = s.cpu.getRP2 p ∧ u.cpu.flags = s.cpu.flags ∧
      u.cpu.sp = t.cpu.sp + 2 := by
  obtain ⟨u, hnext, hpair, haf, hsp, hd⟩ := popRP2_does p t
  cases p with
  | af =>
    rw [hpop, Cpu.getRP2, Cpu.af, hiByte_pairOf, loByte_pairOf, unpackF_packF] at haf
    obtain ⟨ha, hf⟩ := haf rfl
    exact ⟨u, hnext, by rw [Cpu.getRP2, Cpu.getRP2, Cpu.af, Cpu.af, ha, hf], hf, hsp⟩
  | bc | de | hl =>
    exact ⟨u, hnext, (hpair nofun).trans hpop, (hd.frame .flags (by decide)).trans hflags, hsp⟩

/-- Settles O15: the pop reads the two bytes the push stored. -/
theorem pushThenPopRestores : Obligations.PushThenPopRestores := by
  intro p s hhi hlo hne
  obtain ⟨t, hpush, hsp, hd⟩ := pushRP2_does p s
  have hpop : t.popValue = s.cpu.getRP2 p := popValue_of_pushStores hsp hd.stores hhi hlo hne
  obtain ⟨u, hnext, hpair, hflags, hsp'⟩ := popRP2_restores p hpop (hd.frame .flags (by decide))
  refine ⟨t, u, (exec_rowPush p s).trans hpush, (exec_rowPop p t).trans hnext, hpair, hflags, ?_⟩
  rw [hsp', hsp, BitVec.sub_add_cancel]

end Sys2Proof.Machine

/-!
SUPPORT. The 8-bit arithmetic and logic (R190 to R206): each row is one shared meaning
that writes a computed byte and computed flags; what is computed is read in integers.
-/

namespace Sys2Proof.Machine

/-! ### Changing what a completion claims -/

theorem Completes.mono {i : Instr} {bytes : List Byte} {parts : List Part} {n : Nat} {s : State}
    {post post' : State → Prop} (h : Completes i bytes parts n s post) (himp : ∀ t, post t → post' t) :
    Completes i bytes parts n s post' := by
  obtain ⟨hbytes, t, hexec, hframe, htook, hpost⟩ := h
  exact ⟨hbytes, t, hexec, hframe, htook, himp t hpost⟩

/-- A part the result leaves as it was belongs to the frame. -/
theorem Completes.keeps {i : Instr} {bytes : List Byte} {q : Part} {parts : List Part} {n : Nat} {s : State}
    {post : State → Prop} (h : Completes i bytes (q :: parts) n s post)
    (hsame : ∀ t, post t → q.Same s t) : Completes i bytes parts n s post := by
  obtain ⟨hbytes, t, hexec, hframe, htook, hpost⟩ := h
  refine ⟨hbytes, t, hexec, fun p hp => ?_, htook, hpost⟩
  by_cases hpq : p = q
  · exact hpq ▸ hsame t hpost
  · exact hframe p ((not_mem_cons_iff p q parts).mpr ⟨hpq, hp⟩)

/-! ### Rows of R113 and R117 -/

/-- The block `x = 2`, `10 y z` (R116, R117). -/
theorem encode_rowAlu (op : AluOp) (x : R8) :
    encode (rowAlu op x) = [BitVec.ofNat 8 (0x80 + 8 * op.code + x.code)] := by
  cases x with
  | reg r => cases op <;> cases r <;> rfl
  | atHL => cases op <;> rfl

/-- `11 y 110` and the operand byte (R116, R117). -/
theorem encode_rowAluN (op : AluOp) (n : Byte) :
    encode (rowAluN op n) = [BitVec.ofNat 8 (0xC6 + 8 * op.code), n] := by
  cases op <;> rfl

/-- `00 y 100` (R116). -/
theorem encode_rowInc (x : R8) : encode (rowInc x) = [BitVec.ofNat 8 (0x04 + 8 * x.code)] := by
  cases x with
  | reg r => cases r <;> rfl
  | atHL => rfl

/-- `00 y 101` (R116). -/
theorem encode_rowDec (x : R8) : encode (rowDec x) = [BitVec.ofNat 8 (0x05 + 8 * x.code)] := by
  cases x with
  | reg r => cases r <;> rfl
  | atHL => rfl

theorem exec_rowAlu (op : AluOp) (x : R8) (s : State) : exec (rowAlu op x) s = aluR8 op x s := by
  cases x with
  | reg r => cases op <;> cases r <;> rfl
  | atHL => cases op <;> rfl

theorem exec_rowAluN (op : AluOp) (n : Byte) (s : State) : exec (rowAluN op n) s = aluN op n s := by
  cases op <;> rfl

theorem exec_rowInc (x : R8) (s : State) : exec (rowInc x) s = incR8 x s := by
  cases x with
  | reg r => cases r <;> rfl
  | atHL => rfl

theorem exec_rowDec (x : R8) (s : State) : exec (rowDec x) s = decR8 x s := by
  cases x with
  | reg r => cases r <;> rfl
  | atHL => rfl

theorem r8Cost_eq_ite (x : R8) (register memory : Nat) :
    r8Cost x register memory = if x = .atHL then memory else register := by
  cases x <;> rfl

/-! ### What the shared meanings leave -/

/-- `A` and the flags are those of a computation. -/
structure AccIs (r : Computed) (t : State) : Prop where
  a : t.cpu.a = r.value
  flags : t.cpu.flags = r.flags

theorem completes_rowAlu (op : AluOp) (x : R8) (s : State) :
    Completes (rowAlu op x) [BitVec.ofNat 8 (0x80 + 8 * op.code + x.code)] [.reg .a, .flags]
      (if x = .atHL then 8 else 4) s (AccIs (aluApply op s.cpu.a (s.readR8 x) s.cpu.flags)) := by
  obtain ⟨_, hnext, ha, hflags, hd⟩ := aluR8_does op x s
  rw [r8Cost_eq_ite] at hd
  exact .of_does (encode_rowAlu op x) ((exec_rowAlu op x s).trans hnext) hd ⟨ha, hflags⟩

theorem completes_rowAluN (op : AluOp) (n : Byte) (s : State) :
    Completes (rowAluN op n) [BitVec.ofNat 8 (0xC6 + 8 * op.code), n] [.reg .a, .flags] 8 s
      (AccIs (aluApply op s.cpu.a n s.cpu.flags)) := by
  obtain ⟨_, hnext, ha, hflags, hd⟩ := aluN_does op n s
  exact .of_does (encode_rowAluN op n) ((exec_rowAluN op n s).trans hnext) hd ⟨ha, hflags⟩

theorem completes_accOp {i : Instr} {bytes : List Byte} {f : Byte → Flags → Computed} {s : State}
    (hbytes : encode i = bytes) (hexec : exec i s = accOp f s) :
    Completes i bytes [.reg .a, .flags] 4 s (AccIs (f s.cpu.a s.cpu.flags)) := by
  obtain ⟨_, hnext, ha, hflags, hd⟩ := accOp_does f s
  exact .of_does hbytes (hexec.trans hnext) hd ⟨ha, hflags⟩

theorem completes_flagOp {i : Instr} {bytes : List Byte} {f : Flags → Flags} {s : State}
    (hbytes : encode i = bytes) (hexec : exec i s = flagOp f s) :
    Completes i bytes [.flags] 4 s fun t => t.cpu.flags = f s.cpu.flags := by
  obtain ⟨_, hnext, hflags, hd⟩ := flagOp_does f s
  exact .of_does hbytes (hexec.trans hnext) hd hflags

/-! ### Computed bytes and flags in integers (R207) -/

@[simp] theorem byteOf_toNat (n : Nat) : (byteOf n).toNat = n % 256 := BitVec.toNat_ofNat n 8

/-- Z looks at the truncated result (R207 (c)). -/
theorem byte_beq_zero (v : Byte) : (v == 0) = decide (v.toNat = 0) := by
  rw [Bool.eq_iff_iff, beq_iff_eq, decide_eq_true_iff]
  exact BitVec.toNat_eq

theorem sumIs_of_accIs {a v : Byte} {c : Nat} {t : State} (h : AccIs (addBytes a v c) t) :
    SumIs a.toNat v.toNat c t := by
  constructor
  · rw [h.a, addBytes, byteOf_toNat]
  · rw [h.flags, addBytes, byte_beq_zero, byteOf_toNat]

/-- The difference modulo 256; the borrow-in is one bit. -/
theorem subBytes_toNat (a v : Byte) {c : Nat} (hc : c ≤ 1) :
    ((subBytes a v c).value.toNat : Int) = ((a.toNat : Int) - v.toNat - c) % 256 := by
  rw [subBytes, byteOf_toNat]
  omega

theorem borrowIs_of_flags {a v : Byte} {c : Nat} (hc : c ≤ 1) {t : State}
    (h : t.cpu.flags = (subBytes a v c).flags) : BorrowIs a.toNat v.toNat c t := by
  have hz : (subBytes a v c).flags.z = decide (((a.toNat : Int) - v.toNat - c) % 256 = 0) :=
    (byte_beq_zero (subBytes a v c).value).trans
      (decide_eq_decide.mpr (by rw [← subBytes_toNat a v hc, Int.natCast_eq_zero]))
  rw [BorrowIs, ← hz, h]
  rfl

theorem differenceIs_of_accIs {a v : Byte} {c : Nat} (hc : c ≤ 1) {t : State} (h : AccIs (subBytes a v c) t) :
    DifferenceIs a.toNat v.toNat c t :=
  ⟨by rw [h.a, subBytes_toNat a v hc], borrowIs_of_flags hc h.flags⟩

theorem logicIs_of_accIs {r : Byte} {half : Bool} {t : State} (h : AccIs (logicResult r half) t) :
    LogicIs r half t :=
  ⟨h.a, by rw [h.flags, logicResult, byte_beq_zero]⟩

/-! ### The accumulator operations (R191 to R198) -/

/-- Settles O16: both operations are `addBytes`, with the carry-in 0 or C. -/
theorem addAndAddWithCarry : Obligations.AddAndAddWithCarry := by
  intro x n s a v c cost
  exact ⟨(completes_rowAlu .add x s).mono fun _ => sumIs_of_accIs,
    (completes_rowAlu .adc x s).mono fun _ => sumIs_of_accIs,
    (completes_rowAluN .add n s).mono fun _ => sumIs_of_accIs,
    (completes_rowAluN .adc n s).mono fun _ => sumIs_of_accIs⟩

/-- Settles O17: all three are `subBytes`, with the borrow-in 0 or C; `CP` writes the old
`A` back. -/
theorem subtractAndCompare : Obligations.SubtractAndCompare := by
  intro x n s a v c cost
  have hc : c ≤ 1 := Bool.toNat_le _
  exact ⟨(completes_rowAlu .sub x s).mono fun _ => differenceIs_of_accIs zero_le_one,
    (completes_rowAlu .sbc x s).mono fun _ => differenceIs_of_accIs hc,
    ((completes_rowAlu .cp x s).keeps fun _ h => h.a).mono fun _ h => borrowIs_of_flags zero_le_one h.flags,
    (completes_rowAluN .sub n s).mono fun _ => differenceIs_of_accIs zero_le_one,
    (completes_rowAluN .sbc n s).mono fun _ => differenceIs_of_accIs hc,
    ((completes_rowAluN .cp n s).keeps fun _ h => h.a).mono fun _ h => borrowIs_of_flags zero_le_one h.flags⟩

/-- Settles O18: the three are `logicResult` of the bitwise result. -/
theorem bitwiseLogic : Obligations.BitwiseLogic := by
  intro x n s a v cost
  exact ⟨(completes_rowAlu .and x s).mono fun _ => logicIs_of_accIs,
    (completes_rowAlu .xor x s).mono fun _ => logicIs_of_accIs,
    (completes_rowAlu .or x s).mono fun _ => logicIs_of_accIs,
    (completes_rowAluN .and n s).mono fun _ => logicIs_of_accIs,
    (completes_rowAluN .xor n s).mono fun _ => logicIs_of_accIs,
    (completes_rowAluN .or n s).mono fun _ => logicIs_of_accIs⟩

/-! ### INC and DEC (R199 to R202) -/

/-- One more modulo 256, in numbers. -/
theorem byte_add_one (v : Byte) : v + 1 = BitVec.ofNat 8 (v.toNat + 1) := by bv_omega

/-- One less modulo 256, in numbers. -/
theorem byte_sub_one (v : Byte) : v - 1 = BitVec.ofNat 8 (v.toNat + 0xFF) := by bv_omega

theorem incByte_flags (v : Byte) (f : Flags) :
    (incByte v f).flags =
      { z := decide (v.toNat = 0xFF), n := false, h := decide (v.toNat % 16 = 0xF), c := f.c } := by
  have hz : (v + 1 == 0) = decide (v.toNat = 0xFF) := by
    rw [byte_beq_zero, decide_eq_decide]
    bv_omega
  rw [incByte, hz]

theorem decByte_flags (v : Byte) (f : Flags) :
    (decByte v f).flags =
      { z := decide (v.toNat = 0x01), n := true, h := decide (v.toNat % 16 = 0x0), c := f.c } := by
  have hz : (v - 1 == 0) = decide (v.toNat = 0x01) := by
    rw [byte_beq_zero, decide_eq_decide]
    bv_omega
  rw [decByte, hz]

/-- Settles O19: the operand and the flags of `incByte` and `decByte`, in numbers. -/
theorem incrementAndDecrementByte : Obligations.IncrementAndDecrementByte := by
  intro x s v cost
  obtain ⟨_, hinc, hincPost, hincFlags, hincDoes⟩ := incR8_does x s
  obtain ⟨_, hdec, hdecPost, hdecFlags, hdecDoes⟩ := decR8_does x s
  rw [r8Cost_eq_ite] at hincDoes hdecDoes
  rw [byte_add_one] at hincPost
  rw [byte_sub_one] at hdecPost
  exact ⟨.of_does (encode_rowInc x) ((exec_rowInc x s).trans hinc) hincDoes
      ⟨hincPost, hincFlags.trans (incByte_flags _ _)⟩,
    .of_does (encode_rowDec x) ((exec_rowDec x s).trans hdec) hdecDoes
      ⟨hdecPost, hdecFlags.trans (decByte_flags _ _)⟩⟩

/-! ### DAA (R203) -/

/-- The add branch of `DAA`: both tests on the original `A`. -/
theorem daa_of_add (a : Byte) {f : Flags} (hn : f.n = false) :
    (daa a f).value = byteOf (a.toNat + daaAddAdjust a f) ∧
      (daa a f).flags.c = (f.c || decide (a.toNat > 0x99)) := by
  simp [daa, hn]

/-- The subtract branch of `DAA`: the tests are the flags, C is kept. -/
theorem daa_of_sub (a : Byte) {f : Flags} (hn : f.n = true) :
    (daa a f).value = byteOf (a.toNat + 0x100 - daaSubAdjust f) ∧ (daa a f).flags.c = f.c := by
  simp [daa, hn]

/-- N kept, H cleared, Z of the result, whatever the branch. -/
theorem daa_flags (a : Byte) (f : Flags) :
    (daa a f).flags =
      { z := decide ((daa a f).value.toNat = 0), n := f.n, h := false, c := (daa a f).flags.c } := by
  rw [← byte_beq_zero]
  rfl

/-- Settles O20: one branch for each value of N. -/
theorem decimalAdjust : Obligations.DecimalAdjust := by
  intro s a f low high adj result
  have hvalue : (daa s.cpu.a f).value.toNat = result ∧ (daa s.cpu.a f).flags.c = high := by
    cases hn : f.n with
    | false =>
      obtain ⟨hv, hc⟩ := daa_of_add s.cpu.a hn
      rw [hv, hc, byteOf_toNat]
      simp [result, adj, low, high, hn, daaAddAdjust, a]
    | true =>
      obtain ⟨hv, hc⟩ := daa_of_sub s.cpu.a hn
      rw [hv, hc, byteOf_toNat]
      simp [result, adj, low, high, hn, daaSubAdjust, a]
  obtain ⟨hv, hc⟩ := hvalue
  refine (completes_accOp (f := daa) rfl rfl).mono fun t h => ⟨by rw [h.a, hv], ?_⟩
  rw [h.flags, daa_flags, hv, hc]

/-! ### DAA after a packed-BCD operation -/

theorem bcd_toNat {x : Nat} (hx : x < 100) : (bcd x).toNat = 16 * (x / 10) + x % 10 := by
  rw [bcd, BitVec.toNat_ofNat]
  omega

/-- A decimal sum of two digits carries exactly when the sum of the packed bytes passes 0x99:
the tens alone decide it, unless they make 9 and the units carry. -/
theorem hundred_le_iff_bcd_sum (x y : Nat) :
    100 ≤ x + y ↔ 0x99 < 16 * (x / 10) + x % 10 + (16 * (y / 10) + y % 10) := by
  rcases Nat.lt_trichotomy (x / 10 + y / 10) 9 with htens | htens | htens <;> omega

/-- After the addition of packed-BCD bytes the low test of `DAA` finds the carry of the
low decimal digits, and the high test the carry of the whole decimal sum. -/
theorem daa_addBytes_bcd {x y : Nat} (hx : x < 100) (hy : y < 100) :
    let r := addBytes (bcd x) (bcd y) 0
    (daa r.value r.flags).value = bcd ((x + y) % 100) ∧
      (daa r.value r.flags).flags.c = decide (100 ≤ x + y) := by
  intro r
  have hsum : r.value.toNat = (16 * (x / 10) + x % 10 + (16 * (y / 10) + y % 10)) % 256 := by
    simp [r, addBytes, bcd_toNat hx, bcd_toNat hy]
  have hlow : (r.flags.h || decide (r.value.toNat % 16 > 9)) = decide (9 < x % 10 + y % 10) := by
    rw [hsum, Bool.eq_iff_iff]
    simp only [r, addBytes, bcd_toNat hx, bcd_toNat hy, Bool.or_eq_true, decide_eq_true_eq]
    omega
  have hhigh : (r.flags.c || decide (r.value.toNat > 0x99)) = decide (100 ≤ x + y) := by
    rw [hsum, Bool.eq_iff_iff]
    simp only [r, addBytes, bcd_toNat hx, bcd_toNat hy, Bool.or_eq_true, decide_eq_true_eq,
      hundred_le_iff_bcd_sum]
    omega
  obtain ⟨hv, hc⟩ := daa_of_add r.value (f := r.flags) rfl
  refine ⟨?_, hc.trans hhigh⟩
  rw [hv, daaAddAdjust, hlow, hhigh, ← BitVec.toNat_inj, byteOf_toNat, bcd_toNat (Nat.mod_lt _ (by decide)), hsum]
  simp only [decide_eq_true_eq]
  split <;> split <;> omega

/-- After the subtraction of packed-BCD bytes H is the borrow of the low decimal digits and
C the borrow of the whole decimal difference. -/
theorem daa_subBytes_bcd {x y : Nat} (hx : x < 100) (hy : y < 100) :
    let r := subBytes (bcd x) (bcd y) 0
    (daa r.value r.flags).value = bcd ((x + 100 - y) % 100) ∧
      (daa r.value r.flags).flags.c = decide (x < y) := by
  intro r
  have hdiff : r.value.toNat = (16 * (x / 10) + x % 10 + 512 - (16 * (y / 10) + y % 10)) % 256 := by
    simp [r, subBytes, bcd_toNat hx, bcd_toNat hy]
  have hlow : r.flags.h = decide (x % 10 < y % 10) := by
    simp only [r, subBytes, bcd_toNat hx, bcd_toNat hy, decide_eq_decide]
    omega
  have hhigh : r.flags.c = decide (x < y) := by
    simp only [r, subBytes, bcd_toNat hx, bcd_toNat hy, decide_eq_decide]
    omega
  obtain ⟨hv, hc⟩ := daa_of_sub r.value (f := r.flags) rfl
  refine ⟨?_, hc.trans hhigh⟩
  rw [hv, daaSubAdjust, hlow, hhigh, ← BitVec.toNat_inj, byteOf_toNat, bcd_toNat (Nat.mod_lt _ (by decide)), hdiff]
  simp only [decide_eq_true_eq]
  split <;> split <;> omega

/-- An immediate operation, then `DAA` on the `A` and the flags it left. -/
theorem exec_rowAluN_then_daa (op : AluOp) (n : Byte) (s : State) :
    let r := aluApply op s.cpu.a n s.cpu.flags
    ∃ t u, exec (rowAluN op n) s = .next t ∧ exec .daa t = .next u ∧ AccIs (daa r.value r.flags) u := by
  obtain ⟨-, t, hop, -, -, ha, hflags⟩ := completes_rowAluN op n s
  obtain ⟨-, u, hdaa, -, -, hacc⟩ := completes_accOp (i := .daa) (f := daa) (s := t) rfl rfl
  rw [ha, hflags] at hacc
  exact ⟨t, u, hop, hdaa, hacc⟩

/-- Settles O21: what `DAA` computes from the sum and from the difference. -/
theorem decimalAdjustMakesBcd : Obligations.DecimalAdjustMakesBcd := by
  intro x y s hx hy ha
  obtain ⟨hsum, hcarry⟩ := daa_addBytes_bcd hx hy
  obtain ⟨hdiff, hborrow⟩ := daa_subBytes_bcd hx hy
  obtain ⟨t, u, hadd, hdaa, hacc⟩ := exec_rowAluN_then_daa .add (bcd y) s
  obtain ⟨t', u', hsub, hdaa', hacc'⟩ := exec_rowAluN_then_daa .sub (bcd y) s
  rw [ha] at hacc hacc'
  exact ⟨⟨t, u, hadd, hdaa, hacc.a.trans hsum, by rw [hacc.flags]; exact hcarry⟩,
    ⟨t', u', hsub, hdaa', hacc'.a.trans hdiff, by rw [hacc'.flags]; exact hborrow⟩⟩

/-! ### CPL, SCF and CCF (R204 to R206) -/

theorem complement_toNat (a : Byte) (f : Flags) : (complement a f).value.toNat = 255 - a.toNat := by
  have h : a ^^^ 0xFF = ~~~a := BitVec.xor_allOnes
  rw [complement, h, BitVec.toNat_not]

/-- Settles O22: each keeps the flags it does not name. -/
theorem complementAndCarryFlag : Obligations.ComplementAndCarryFlag := by
  intro s f
  exact ⟨(completes_accOp (f := complement) rfl rfl).mono fun _ h =>
      ⟨by rw [h.a, complement_toNat], h.flags⟩,
    completes_flagOp (f := setCarry) rfl rfl, completes_flagOp (f := complementCarry) rfl rfl⟩

end Sys2Proof.Machine

/-!
SUPPORT. The 16-bit arithmetic (R220 to R222): each row is one shared meaning on a pair,
whose result is read in integers.
-/

namespace Sys2Proof.Machine

/-! ### Rows of R114 -/

/-- `00 pp 1001` (R114, R116). -/
theorem encode_rowAddHL (p : RP) : encode (rowAddHL p) = [BitVec.ofNat 8 (0x09 + 16 * p.code)] := by
  cases p <;> rfl

/-- `00 pp 0011` (R114, R116). -/
theorem encode_rowIncRP (p : RP) : encode (rowIncRP p) = [BitVec.ofNat 8 (0x03 + 16 * p.code)] := by
  cases p <;> rfl

/-- `00 pp 1011` (R114, R116). -/
theorem encode_rowDecRP (p : RP) : encode (rowDecRP p) = [BitVec.ofNat 8 (0x0B + 16 * p.code)] := by
  cases p <;> rfl

theorem exec_rowAddHL (p : RP) (s : State) : exec (rowAddHL p) s = addHL p s := by
  cases p <;> rfl

theorem exec_rowIncRP (p : RP) (s : State) : exec (rowIncRP p) s = stepRP p 1 s := by
  cases p <;> rfl

theorem exec_rowDecRP (p : RP) (s : State) : exec (rowDecRP p) s = stepRP p (-1) s := by
  cases p <;> rfl

/-! ### ADD HL,rr (R220) -/

theorem addWords_toNat (x y : Word) : (addWords x y).toNat = (x.toNat + y.toNat) % 0x10000 :=
  BitVec.toNat_ofNat ..

/-- Settles O23: every pair is one meaning, `HL` itself included; the flags are those of
`addWordsFlags`. -/
theorem addToHL : Obligations.AddToHL := by
  intro p s x y
  obtain ⟨_, hnext, hhl, hflags, hd⟩ := addHL_does p s
  exact .of_does (encode_rowAddHL p) ((exec_rowAddHL p s).trans hnext) hd
    ⟨by rw [hhl, addWords_toNat], hflags⟩

/-! ### INC rr and DEC rr (R221, R222) -/

/-- A row whose meaning is a step on a pair; only the pair changes, so no flag does. -/
theorem completes_stepRP {i : Instr} {bytes : List Byte} {p : RP} {step : Word} {n : Nat} {s : State}
    (hbytes : encode i = bytes) (hexec : exec i s = stepRP p step s) (hstep : step.toNat = n) :
    Completes i bytes (partsOfRP p) 8 s fun t =>
      (t.cpu.getRP p).toNat = ((s.cpu.getRP p).toNat + n) % 0x10000 := by
  obtain ⟨_, hnext, hpair, hd⟩ := stepRP_does p step s
  exact .of_does hbytes (hexec.trans hnext) hd (by rw [hpair, BitVec.toNat_add, hstep])

/-- Settles O24: the steps are the words 1 and -1, and -1 is 0xFFFF. -/
theorem incrementAndDecrementPair : Obligations.IncrementAndDecrementPair := fun p s =>
  ⟨completes_stepRP (encode_rowIncRP p) (exec_rowIncRP p s) rfl,
    completes_stepRP (encode_rowDecRP p) (exec_rowDecRP p s) rfl⟩

end Sys2Proof.Machine

/-!
SUPPORT. The rotates, shifts and bit operations (R230 to R245): each row is one shared
meaning; the shifted byte and its carry are read in numbers, the masked byte bit by bit.
-/

namespace Sys2Proof.Machine

/-! ### Rows of R117 and R118 -/

/-- The block `x = 0` of the extended table, `00 y z` (R117, R120). -/
theorem encode_rowRot (op : RotOp) (x : R8) :
    encode (rowRot op x) = [0xCB, BitVec.ofNat 8 (8 * op.code + x.code)] := by
  cases x with
  | reg r => cases op <;> cases r <;> rfl
  | atHL => cases op <;> rfl

/-- The block `x = 1` of the extended table, `01 y z` (R118, R120). -/
theorem encode_rowBit (b : Index3) (x : R8) :
    encode (rowBit b x) = [0xCB, BitVec.ofNat 8 (0x40 + 8 * b.toNat + x.code)] := by
  cases x with
  | reg r => cases b <;> cases r <;> rfl
  | atHL => cases b <;> rfl

/-- The block `x = 2` of the extended table, `10 y z` (R118, R120). -/
theorem encode_rowRes (b : Index3) (x : R8) :
    encode (rowRes b x) = [0xCB, BitVec.ofNat 8 (0x80 + 8 * b.toNat + x.code)] := by
  cases x with
  | reg r => cases b <;> cases r <;> rfl
  | atHL => cases b <;> rfl

/-- The block `x = 3` of the extended table, `11 y z` (R118, R120). -/
theorem encode_rowSet (b : Index3) (x : R8) :
    encode (rowSet b x) = [0xCB, BitVec.ofNat 8 (0xC0 + 8 * b.toNat + x.code)] := by
  cases x with
  | reg r => cases b <;> cases r <;> rfl
  | atHL => cases b <;> rfl

/-! ### Shifted bytes in numbers -/

/-- The bit moved out by a shift left. -/
theorem byte_bit7 (v : Byte) : v.getLsbD 7 = decide (128 ≤ v.toNat) :=
  (BitVec.msb_eq_getLsbD_last v).symm.trans (BitVec.msb_eq_decide v)

theorem byte_bit7_toNat (v : Byte) : (v.getLsbD 7).toNat = v.toNat / 128 :=
  (Nat.toNat_testBit v.toNat 7).trans (by have := v.isLt; omega)

theorem byte_bit0_toNat (v : Byte) : (v.getLsbD 0).toNat = v.toNat % 2 :=
  (Nat.toNat_testBit v.toNat 0).trans (by rw [pow_zero, Nat.div_one])

/-- Joined fields in numbers: the high field weighs `2 ^ m`. -/
theorem append_toNat {n m : Nat} (x : BitVec n) (y : BitVec m) :
    (x ++ y).toNat = x.toNat * 2 ^ m + y.toNat := by
  rw [BitVec.toNat_append, ← Nat.shiftLeft_add_eq_or_of_lt y.isLt, Nat.shiftLeft_eq]

theorem shiftLeftIn_toNat (v : Byte) (b : Bool) :
    (shiftLeftIn v b).toNat = (2 * v.toNat + b.toNat) % 256 := by
  refine (append_toNat _ _).trans ?_
  rw [BitVec.extractLsb'_toNat, BitVec.toNat_ofBool, Nat.shiftRight_zero]
  have := b.toNat_lt
  omega

theorem shiftRightIn_toNat (v : Byte) (b : Bool) :
    (shiftRightIn v b).toNat = v.toNat / 2 + 128 * b.toNat := by
  refine (append_toNat _ _).trans ?_
  rw [BitVec.extractLsb'_toNat, BitVec.toNat_ofBool, Nat.shiftRight_eq_div_pow]
  have := v.isLt
  omega

theorem swapNibbles_toNat (v : Byte) :
    (v.extractLsb' 0 4 ++ v.extractLsb' 4 4).toNat = 16 * (v.toNat % 16) + v.toNat / 16 := by
  rw [append_toNat, BitVec.extractLsb'_toNat, BitVec.extractLsb'_toNat, Nat.shiftRight_zero,
    Nat.shiftRight_eq_div_pow]
  have := v.isLt
  omega

/-- The value of a rotate or shift is one place left or right with the bit that enters,
`SWAP` aside. -/
theorem rotShift_value_toNat (op : RotOp) (v : Byte) (c : Bool) :
    (rotShift op v c).value.toNat = rotValue op v.toNat c.toNat := by
  cases op with
  | rlc => exact (shiftLeftIn_toNat v _).trans (by rw [byte_bit7_toNat, rotValue])
  | rrc => exact (shiftRightIn_toNat v _).trans (by rw [byte_bit0_toNat, rotValue])
  | rl => exact shiftLeftIn_toNat v c
  | rr => exact shiftRightIn_toNat v c
  | sla => exact shiftLeftIn_toNat v false
  | sra => exact (shiftRightIn_toNat v _).trans (by rw [byte_bit7_toNat, rotValue])
  | swap => exact swapNibbles_toNat v
  | srl => exact shiftRightIn_toNat v false

/-- The bit moved out is bit 7 of a shift left and bit 0 of a shift right. -/
theorem rotShift_out (op : RotOp) (v : Byte) (c : Bool) : (rotShift op v c).out = rotCarry op v.toNat := by
  cases op with
  | rlc | rl | sla => exact byte_bit7 v
  | rrc | rr | sra | srl => exact Nat.testBit_zero v.toNat
  | swap => rfl

/-! ### The accumulator rotates (R230 to R233) -/

theorem rotAccApply_flags (op : RotOp) (v : Byte) (f : Flags) :
    (rotAccApply op v f).flags = { z := false, n := false, h := false, c := rotCarry op v.toNat } := by
  rw [rotAccApply, rotShift_out]

theorem completes_rotateAcc {i : Instr} {bytes : List Byte} {op : RotOp} {s : State}
    (hbytes : encode i = bytes) (hexec : exec i s = rotateAcc op s) :
    Completes i bytes [.reg .a, .flags] 4 s fun t =>
      t.cpu.a.toNat = rotValue op s.cpu.a.toNat s.cpu.flags.c.toNat ∧
        t.cpu.flags = { z := false, n := false, h := false, c := rotCarry op s.cpu.a.toNat } := by
  obtain ⟨_, hnext, ha, hflags, hd⟩ := rotateAcc_does op s
  exact .of_does hbytes (hexec.trans hnext) hd
    ⟨by rw [ha]; exact rotShift_value_toNat op _ _, hflags.trans (rotAccApply_flags op _ _)⟩

/-- Settles O25: the four are one meaning, `rotateAcc`. -/
theorem accumulatorRotates : Obligations.AccumulatorRotates := by
  intro s a c post
  exact ⟨completes_rotateAcc rfl rfl, completes_rotateAcc rfl rfl, completes_rotateAcc rfl rfl,
    completes_rotateAcc rfl rfl⟩

/-! ### The rotates and shifts of the extended table (R234 to R242) -/

theorem rotShift_value (op : RotOp) (v : Byte) (c : Bool) :
    (rotShift op v c).value = BitVec.ofNat 8 (rotValue op v.toNat c.toNat) := by
  rw [← rotShift_value_toNat, BitVec.ofNat_toNat, BitVec.setWidth_eq]

/-- Z looks at the result, which is below 256 as it stands. -/
theorem rotApply_flags (op : RotOp) (v : Byte) (f : Flags) :
    (rotApply op v f).flags =
      { z := decide (rotValue op v.toNat f.c.toNat = 0), n := false, h := false, c := rotCarry op v.toNat } := by
  rw [rotApply, byte_beq_zero, rotShift_value_toNat, rotShift_out]

/-- Settles O26: every row is one meaning, `rotateR8`; the value and the flags in numbers. -/
theorem rotatesAndShifts : Obligations.RotatesAndShifts := by
  intro op x s v r
  obtain ⟨_, hnext, hvalue, hflags, hd⟩ := rotateR8_does op x s
  rw [r8Cost_eq_ite] at hd
  rw [rotShift_value] at hvalue
  exact .of_does (encode_rowRot op x) ((exec_rowRot op x s).trans hnext) hd
    ⟨hvalue, hflags.trans (rotApply_flags op _ _)⟩

/-! ### BIT, RES and SET (R243 to R245) -/

/-- The tested bit is 0 exactly when the byte divided down to it is even. -/
theorem bitFlags_eq (v : Byte) (b : Index3) (f : Flags) :
    bitFlags v b f = { z := decide (v.toNat / 2 ^ b.toNat % 2 = 0), n := false, h := true, c := f.c } := by
  have hz : (!v.getLsbD b.toNat) = decide (v.toNat / 2 ^ b.toNat % 2 = 0) := by
    rw [BitVec.getLsbD, Nat.testBit_eq_decide_div_mod_eq, ← decide_not, decide_eq_decide, Nat.mod_two_not_eq_one]
  rw [bitFlags, hz]

theorem bitMask_getLsbD (b : Index3) (j : Nat) : (bitMask b).getLsbD j = decide (j = b.toNat) := by
  have hb : b.toNat < 8 := by cases b <;> decide
  rw [bitMask, BitVec.getLsbD_ofNat, Nat.testBit_two_pow, Bool.eq_iff_iff]
  simp only [Bool.and_eq_true, decide_eq_true_eq]
  omega

theorem setBit_getLsbD (v : Byte) (b : Index3) (j : Nat) :
    (setBit v b).getLsbD j = (decide (j = b.toNat) || v.getLsbD j) := by
  rw [setBit, BitVec.getLsbD_or, bitMask_getLsbD, Bool.or_comm]

/-- Past bit 7 both sides are 0, the complement of the mask included. -/
theorem clearBit_getLsbD (v : Byte) (b : Index3) (j : Nat) :
    (clearBit v b).getLsbD j = (decide (j ≠ b.toNat) && v.getLsbD j) := by
  rw [clearBit, BitVec.getLsbD_and, BitVec.getLsbD_not, bitMask_getLsbD, decide_not]
  by_cases hj : j < 8
  · rw [decide_eq_true hj, Bool.true_and, Bool.and_comm]
  · rw [BitVec.getLsbD_of_ge v j (by omega), Bool.false_and, Bool.and_false]

/-- Settles O27: one meaning for each of the three; the byte stored is described bit by bit. -/
theorem testResetAndSetBit : Obligations.TestResetAndSetBit := by
  intro b x s byte
  obtain ⟨_, hbit, hbitFlags, hbitDoes⟩ := testBit_does b x s
  obtain ⟨_, hres, hresPost, hresDoes⟩ := resetBit_does b x s
  obtain ⟨_, hset, hsetPost, hsetDoes⟩ := raiseBit_does b x s
  rw [r8Cost_eq_ite] at hbitDoes hresDoes hsetDoes
  exact ⟨.of_does (encode_rowBit b x) ((exec_rowBit b x s).trans hbit) hbitDoes
      (hbitFlags.trans (bitFlags_eq _ b _)),
    .of_does (encode_rowRes b x) ((exec_rowRes b x s).trans hres) hresDoes
      ⟨_, hresPost, clearBit_getLsbD _ b⟩,
    .of_does (encode_rowSet b x) ((exec_rowSet b x s).trans hset) hsetDoes
      ⟨_, hsetPost, setBit_getLsbD _ b⟩⟩

end Sys2Proof.Machine

/-!
SUPPORT. Control transfer (R260 to R270): each row is one shared meaning, and a
conditional row is the unconditional one or costs only cycles.
-/

namespace Sys2Proof.Machine

/-! ### Conditions (R115) -/

theorem condHolds_iff (cc : Cond) (f : Flags) : condHolds cc f = true ↔ CondIs cc f := by
  cases cc <;> simp [condHolds, CondIs]

/-! ### Rows of R115 and R118 -/

/-- `11 0cc 010` and the operand word (R115, R116). -/
theorem encode_rowJp (cc : Cond) (hi lo : Byte) :
    encode (rowJp cc (pairOf hi lo)) = [BitVec.ofNat 8 (0xC2 + 8 * cc.code), lo, hi] := by
  cases cc <;> exact encode_word rfl

/-- `00 1cc 000` and the operand byte (R115, R116). -/
theorem encode_rowJr (cc : Cond) (e : Byte) : encode (rowJr cc e) = [BitVec.ofNat 8 (0x20 + 8 * cc.code), e] := by
  cases cc <;> rfl

/-- `11 0cc 100` and the operand word (R115, R116). -/
theorem encode_rowCall (cc : Cond) (hi lo : Byte) :
    encode (rowCall cc (pairOf hi lo)) = [BitVec.ofNat 8 (0xC4 + 8 * cc.code), lo, hi] := by
  cases cc <;> exact encode_word rfl

/-- `11 0cc 000` (R115, R116). -/
theorem encode_rowRet (cc : Cond) : encode (rowRet cc) = [BitVec.ofNat 8 (0xC0 + 8 * cc.code)] := by
  cases cc <;> rfl

/-- `11 y 111` (R116, R118). -/
theorem encode_rowRst (y : Index3) : encode (rowRst y) = [BitVec.ofNat 8 (0xC7 + 8 * y.toNat)] := by
  cases y <;> rfl

theorem exec_rowJp (cc : Cond) (nn : Word) (s : State) : exec (rowJp cc nn) s = jumpIf cc nn 12 16 s := by
  cases cc <;> rfl

theorem exec_rowJr (cc : Cond) (e : Byte) (s : State) : exec (rowJr cc e) s = jumpIf cc (relative e s) 8 12 s := by
  cases cc <;> rfl

theorem exec_rowCall (cc : Cond) (nn : Word) (s : State) : exec (rowCall cc nn) s = callIf cc nn s := by
  cases cc <;> rfl

theorem exec_rowRet (cc : Cond) (s : State) : exec (rowRet cc) s = retIf cc s := by
  cases cc <;> rfl

theorem exec_rowRst (y : Index3) (s : State) : exec (rowRst y) s = call (restartTarget y) 16 s := by
  cases y <;> rfl

/-! ### JP and JR (R260 to R264) -/

/-- The address after the instruction plus `e` is the sum of the integers, modulo 2^16. -/
theorem relative_eq_ofInt (e : Byte) (s : State) :
    relative e s = BitVec.ofInt 16 (s.cpu.pc.toNat + e.toInt) :=
  spPlus_eq_ofInt s.cpu.pc e

theorem completes_jump {i : Instr} {bytes : List Byte} {target : Word} {cost : Nat} {s : State}
    (hbytes : encode i = bytes) (hexec : exec i s = jump target cost s) :
    Completes i bytes [.pc] cost s fun t => t.cpu.pc = target := by
  obtain ⟨_, hnext, hpc, hd⟩ := jump_does target cost s
  exact .of_does hbytes (hexec.trans hnext) hd hpc

/-- Not taken, the `PC` is as it was, so it belongs to the frame as well. -/
theorem completes_jumpIf {i : Instr} {bytes : List Byte} {cc : Cond} {target : Word} {notTaken taken : Nat}
    {s : State} (hbytes : encode i = bytes) (hexec : exec i s = jumpIf cc target notTaken taken s) :
    (CondIs cc s.cpu.flags → Completes i bytes [.pc] taken s fun t => t.cpu.pc = target) ∧
      (¬ CondIs cc s.cpu.flags → Completes i bytes [] notTaken s fun _ => True) := by
  obtain ⟨_, hnext, hpc, hd⟩ := jumpIf_does cc target notTaken taken s
  rw [← condHolds_iff]
  constructor
  · intro hcc
    rw [if_pos hcc] at hpc hd
    exact .of_does hbytes (hexec.trans hnext) hd hpc
  · intro hcc
    rw [if_neg hcc] at hpc hd
    have hkept := Completes.of_does (post := Part.pc.Same s) hbytes (hexec.trans hnext) hd hpc
    exact (hkept.keeps fun _ => id).mono fun _ _ => trivial

/-- Settles O28: every form is `jump` or `jumpIf`, at the operand word, at `HL`, or at the
sum of the integers. -/
theorem jumps : Obligations.Jumps := by
  intro cc lo hi e s absolute relativeTo jp jr
  obtain ⟨hjpTaken, hjpNot⟩ := completes_jumpIf (encode_rowJp cc hi lo) (exec_rowJp cc _ s)
  obtain ⟨hjrTaken, hjrNot⟩ := completes_jumpIf (encode_rowJr cc e) (exec_rowJr cc e s)
  have hjr := completes_jump (i := .jrE e) (s := s) rfl rfl
  rw [relative_eq_ofInt] at hjrTaken hjr
  exact ⟨completes_jump (encode_word rfl) rfl, completes_jump rfl rfl, hjr,
    fun hcc => ⟨hjpTaken hcc, hjrTaken hcc⟩, fun hcc => ⟨hjpNot hcc, hjrNot hcc⟩⟩

/-! ### CALL and RST (R265, R266, R270) -/

/-- A call from `s`: the address after the instruction is pushed and the `PC` is at
`target` (R265). -/
def Called (target : Word) (s t : State) : Prop :=
  (t.cpu.sp = s.cpu.sp - 2 ∧ t.bus = writeAll s.bus (pushStores s s.cpu.pc)) ∧ t.cpu.pc = target

theorem completes_call {i : Instr} {bytes : List Byte} {target : Word} {cost : Nat} {s : State}
    (hbytes : encode i = bytes) (hexec : exec i s = call target cost s) :
    Completes i bytes [.pc, .sp, .bus] cost s (Called target s) := by
  obtain ⟨_, hnext, hpc, hsp, hd⟩ := call_does target cost s
  exact .of_does hbytes (hexec.trans hnext) hd ⟨⟨hsp, hd.stores⟩, hpc⟩

theorem completes_callIf {i : Instr} {bytes : List Byte} {cc : Cond} {nn : Word} {s : State}
    (hbytes : encode i = bytes) (hexec : exec i s = callIf cc nn s) :
    (CondIs cc s.cpu.flags → Completes i bytes [.pc, .sp, .bus] 24 s (Called nn s)) ∧
      (¬ CondIs cc s.cpu.flags → Completes i bytes [] 12 s fun _ => True) := by
  obtain ⟨htaken, hnot⟩ := callIf_does cc nn s
  rw [← condHolds_iff, Bool.not_eq_true]
  constructor
  · intro hcc
    obtain ⟨_, hnext, hpc, hsp, hd⟩ := htaken hcc
    exact .of_does hbytes (hexec.trans hnext) hd ⟨⟨hsp, hd.stores⟩, hpc⟩
  · intro hcc
    obtain ⟨_, hnext, hd⟩ := hnot hcc
    exact .of_does hbytes (hexec.trans hnext) hd trivial

/-- `8 * y` fits a byte (R270). -/
theorem restartTarget_toNat (y : Index3) : (restartTarget y).toNat = 8 * y.toNat := by
  cases y <;> rfl

/-- Settles O29: every form is `call` or `callIf`. -/
theorem callsAndRestarts : Obligations.CallsAndRestarts := by
  intro cc lo hi y s pushed bytes
  have hrst := completes_call (encode_rowRst y) (exec_rowRst y s)
  obtain ⟨htaken, hnot⟩ := completes_callIf (encode_rowCall cc hi lo) (exec_rowCall cc _ s)
  refine ⟨completes_call (encode_word rfl) rfl, hrst.mono ?_, htaken, hnot⟩
  rintro t ⟨hpushed, hpc⟩
  exact ⟨hpushed, by rw [hpc, restartTarget_toNat]⟩

/-! ### RET (R267, R268) -/

/-- A return from `s`: the `PC` is popped (R267). -/
def Returned (s t : State) : Prop := t.cpu.pc = s.popValue ∧ t.cpu.sp = s.cpu.sp + 2

theorem completes_ret {i : Instr} {bytes : List Byte} {cost : Nat} {s : State}
    (hbytes : encode i = bytes) (hexec : exec i s = ret cost s) :
    Completes i bytes [.pc, .sp] cost s (Returned s) := by
  obtain ⟨_, hnext, hpc, hsp, hd⟩ := ret_does cost s
  exact .of_does hbytes (hexec.trans hnext) hd ⟨hpc, hsp⟩

theorem completes_retIf {i : Instr} {bytes : List Byte} {cc : Cond} {s : State}
    (hbytes : encode i = bytes) (hexec : exec i s = retIf cc s) :
    (CondIs cc s.cpu.flags → Completes i bytes [.pc, .sp] 20 s (Returned s)) ∧
      (¬ CondIs cc s.cpu.flags → Completes i bytes [] 8 s fun _ => True) := by
  obtain ⟨htaken, hnot⟩ := retIf_does cc s
  rw [← condHolds_iff, Bool.not_eq_true]
  constructor
  · intro hcc
    obtain ⟨_, hnext, hpc, hsp, hd⟩ := htaken hcc
    exact .of_does hbytes (hexec.trans hnext) hd ⟨hpc, hsp⟩
  · intro hcc
    obtain ⟨_, hnext, hd⟩ := hnot hcc
    exact .of_does hbytes (hexec.trans hnext) hd trivial

/-- Settles O30: both forms are `ret` or `retIf`; the value popped is the two bytes at `SP`. -/
theorem returns : Obligations.Returns := fun cc s =>
  ⟨completes_ret rfl rfl, completes_retIf (encode_rowRet cc) (exec_rowRet cc s)⟩

/-! ### RETI, and the step after it (R269, R303 to R306) -/

@[simp] theorem Source.vector_toNat (src : Source) : src.vector.toNat = 0x0040 + 8 * src.bit := by
  cases src <;> rfl

/-- With `IME` set after phase 1, the step dispatches the lowest-numbered set bit of the
pending set. -/
theorem step_of_lowest_pending {s : State} {src : Source} (hstop : s.cpu.hardStopped = false)
    (hime : (s.cpu.ime || s.cpu.imePending) = true) (hset : s.bus.pending.getLsbD src.bit = true)
    (hlowest : ∀ j, j < src.bit → s.bus.pending.getLsbD j = false) :
    step s = .next (State.settle s ((s.consumeEnable.dispatch src).cycles Config.intDispatchCycles)) := by
  refine step_of_dispatch hstop ?_
  rw [State.dispatchable, State.consumeEnable_ime, State.consumeEnable_bus, if_pos hime]
  exact (highestSource_spec _ src).mpr ⟨hset, hlowest⟩

/-- Settles O31: `reti_does` leaves `IME` set whatever the bus, and the dispatch takes back
the two bytes the pop released. -/
theorem returnFromInterrupt : Obligations.ReturnFromInterrupt := by
  intro s
  obtain ⟨t, hnext, hpc, hsp, hime, hd⟩ := reti_does s
  refine .of_does rfl hnext hd ⟨hpc, hsp, hime, fun hstop b src hset hlowest => ?_⟩
  have hstop' : t.cpu.hardStopped = false := (hd.frame .hardStopped (by decide)).trans hstop
  have hstep := step_of_lowest_pending (s := { t with bus := b }) hstop' (by simp [hime]) hset hlowest
  obtain ⟨hvector, hpush, hclear, -, -, -, htook⟩ :=
    dispatch_does (State.consumeEnable { t with bus := b }) src
  refine ⟨_, hstep, ?_, ?_, hclear, ?_⟩
  · rw [State.settle_cpu, State.cycles_pc, hvector, Source.vector_toNat]
  · rw [State.settle_cpu, State.cycles_sp, hpush, State.consumeEnable_sp, hsp, BitVec.add_sub_cancel]
  · rw [Took, State.settle_cpu, State.cycles_cycleCount, htook, State.consumeEnable_cycleCount]
    rfl

end Sys2Proof.Machine

/-!
SUPPORT. The system instructions (R280 to R286): the escape row runs an entry of the
extended table, an undefined opcode is the only instruction that faults, and an `EI` takes
effect one step later.
-/

namespace Sys2Proof.Machine

/-! ### NOP, DI, HALT, EI and STOP (R280, R282 to R285) -/

/-- Settles O32: `NOP` only costs cycles, the other three by what their meanings do. -/
theorem systemInstructions : Obligations.SystemInstructions := by
  intro s
  obtain ⟨_, hdi, hdiIme, hdiPending, hdiDoes⟩ := di_does s
  obtain ⟨_, hhalt, hhaltPost, hhaltDoes⟩ := halt_does s
  obtain ⟨_, hei, heiPost, heiDoes⟩ := ei_does s
  exact ⟨.of_does rfl rfl (cycles_does 4 s) trivial, .of_does rfl hdi hdiDoes ⟨hdiIme, hdiPending⟩,
    .of_does rfl hhalt hhaltDoes hhaltPost, .of_does rfl hei heiDoes heiPost⟩

/-- Settles O34: the refusal is the whole meaning, and the two bytes are the encoding. -/
theorem stopIsRefused : Obligations.StopIsRefused := fun _ _ =>
  ⟨rfl, fun _ => decode_eq_ok_iff.mpr ⟨rfl, rfl⟩⟩

/-! ### The escape row (R281) -/

/-- Every entry of the extended table completes: each block is one shared meaning. -/
theorem runExtended_next (op2 : Byte) (s : State) : ∃ t, runExtended op2 s = .next t := by
  unfold runExtended
  match op2.toNat / 64 with
  | 0 => exact (rotateR8_does _ _ s).imp fun _ h => h.1
  | 1 => exact (testBit_does _ _ s).imp fun _ h => h.1
  | 2 => exact (resetBit_does _ _ s).imp fun _ h => h.1
  | _ + 3 => exact (raiseBit_does _ _ s).imp fun _ h => h.1

/-- Settles O33: the row runs the entry by its fields, which always completes. -/
theorem escapeRunsExtendedEntry : Obligations.EscapeRunsExtendedEntry := fun op2 s =>
  ⟨exec_prefixCB op2 s, runExtended_next op2 s, decode_escape op2⟩

/-! ### The undefined opcodes (R32, R286, R300) -/

/-- The bytes R286 leaves undefined. -/
def undefinedOpcodes : List Byte := [0xD3, 0xDB, 0xDD, 0xE3, 0xE4, 0xEB, 0xEC, 0xED, 0xF4, 0xFC, 0xFD]

/-- Each undefined byte is the whole of an instruction that raises it. -/
theorem exists_raiser {op : Byte} (hop : op ∈ undefinedOpcodes) :
    ∃ i : Instr, encode i = [op] ∧ i.WellFormed ∧ ∀ s, exec i s = s.raiseUndefinedOpcode op := by
  simp only [undefinedOpcodes, List.mem_cons, List.not_mem_nil, or_false] at hop
  rcases hop with rfl | rfl | rfl | rfl | rfl | rfl | rfl | rfl | rfl | rfl | rfl
  · exact ⟨.undefinedD3, rfl, rfl, fun _ => rfl⟩
  · exact ⟨.undefinedDB, rfl, rfl, fun _ => rfl⟩
  · exact ⟨.undefinedDD, rfl, rfl, fun _ => rfl⟩
  · exact ⟨.undefinedE3, rfl, rfl, fun _ => rfl⟩
  · exact ⟨.undefinedE4, rfl, rfl, fun _ => rfl⟩
  · exact ⟨.undefinedEB, rfl, rfl, fun _ => rfl⟩
  · exact ⟨.undefinedEC, rfl, rfl, fun _ => rfl⟩
  · exact ⟨.undefinedED, rfl, rfl, fun _ => rfl⟩
  · exact ⟨.undefinedF4, rfl, rfl, fun _ => rfl⟩
  · exact ⟨.undefinedFC, rfl, rfl, fun _ => rfl⟩
  · exact ⟨.undefinedFD, rfl, rfl, fun _ => rfl⟩

/-- The state the fault carries is the one the hard stop leaves (R300). -/
theorem raiseUndefinedOpcode_does (s : State) (op : Byte) :
    ∃ final, s.raiseUndefinedOpcode op = .fault (.undefinedOpcode op (s.cpu.pc - 1) final) ∧
      final.cpu.hardStopped = true ∧ OnlyChanges [.hardStopped] s final ∧ Took 0 s final := by
  refine ⟨_, rfl, rfl, ?_, rfl⟩
  intro p hp
  cases p with
  | hardStopped => simp at hp
  | reg r => cases r <;> rfl
  | _ => rfl

/-- Phase 0: a hard-stopped CPU has no step (R303). -/
theorem step_of_hardStopped {s : State} (h : s.cpu.hardStopped = true) : step s = .fault .hardStopped := by
  simp [step, State.iterate, State.cpuStep, h]

/-- A conditional meaning completes whether or not its condition holds. -/
theorem ne_fault_of_cond {r : Result} {b : Bool} {P Q : State → Prop}
    (h : (b = true → ∃ t, r = .next t ∧ P t) ∧ (b = false → ∃ t, r = .next t ∧ Q t)) (f : Fault) :
    r ≠ .fault f := by
  obtain ⟨holds, fails⟩ := h
  cases b with
  | true =>
    obtain ⟨_, hnext, -⟩ := holds rfl
    simp [hnext]
  | false =>
    obtain ⟨_, hnext, -⟩ := fails rfl
    simp [hnext]

/-- Only an undefined byte's instruction faults: every other one completes, or is refused. -/
theorem encode_of_exec_fault {i : Instr} {s : State} {f : Fault} (hi : i.WellFormed)
    (h : exec i s = .fault f) : ∃ op ∈ undefinedOpcodes, encode i = [op] := by
  cases i
  case undefinedD3 | undefinedDB | undefinedDD | undefinedE3 | undefinedE4 | undefinedEB | undefinedEC
      | undefinedED | undefinedF4 | undefinedFC | undefinedFD =>
    exact ⟨_, by decide, rfl⟩
  case prefixCB => cases hi
  case jpNZNn | jpZNn | jpNCNn | jpCNn | jrNZE | jrZE | jrNCE | jrCE =>
    obtain ⟨_, hnext, -⟩ := jumpIf_does _ _ _ _ s
    cases h.symm.trans hnext
  case callNZNn | callZNn | callNCNn | callCNn => exact absurd h (ne_fault_of_cond (callIf_does _ _ s) f)
  case retNZ | retZ | retNC | retC => exact absurd h (ne_fault_of_cond (retIf_does _ s) f)
  all_goals cases h

/-- Settles O35: an undefined byte is an instruction that raises the fault, and an
instruction that faults is an undefined byte. -/
theorem undefinedOpcodesHardStop : Obligations.UndefinedOpcodesHardStop := by
  refine fun op s => ⟨fun hop => ?_, fun hop b1 b2 i rest hdecode f hfault => hop ?_⟩
  · obtain ⟨i, hencode, hwf, hraise⟩ := exists_raiser hop
    obtain ⟨final, hfault, hstopped, hframe, htook⟩ := raiseUndefinedOpcode_does s op
    have hdecode : ∀ rest, decode (op :: rest) = .ok (i, rest) := fun rest =>
      decode_eq_ok_iff.mpr ⟨by rw [hencode]; rfl, hwf⟩
    exact ⟨i, final, hencode, hdecode, (hraise s).trans hfault, hstopped, hframe, htook,
      step_of_hardStopped hstopped⟩
  · obtain ⟨hbytes, hwf⟩ := decode_eq_ok_iff.mp hdecode
    obtain ⟨raised, hmem, hencode⟩ := encode_of_exec_fault hwf hfault
    rw [hencode] at hbytes
    cases hbytes
    exact hmem

/-! ### The step that runs EI, and the step after it (R285, R29, R303 to R306) -/

/-- Phase 4, the instruction known: a step that runs `i`, which is `n` bytes long and
completes. -/
theorem step_of_exec_next {s u : State} {i : Instr} {n : Nat} (hstop : s.cpu.hardStopped = false)
    (hnone : s.consumeEnable.dispatchable = none) (hbusy : s.consumeEnable.idles = false)
    (hfetch : s.fetched = (i, n)) (hexec : exec i ((s.consumeEnable.setHalted false).skip n) = .next u) :
    step s = .next (State.settle s u) := by
  rw [step_of_exec hstop hnone hbusy, State.consumeEnable_fetched, hfetch, hexec]

/-- The step of `step_of_lowest_pending`, in full: the old `PC` is pushed after the request
is cleared, then the peripherals advance. -/
theorem step_dispatches {s : State} {src : Source} (hstop : s.cpu.hardStopped = false)
    (hime : (s.cpu.ime || s.cpu.imePending) = true) (hset : s.bus.pending.getLsbD src.bit = true)
    (hlowest : ∀ j, j < src.bit → s.bus.pending.getLsbD j = false) :
    ∃ u, step s = .next u ∧ u.cpu.pc.toNat = 0x0040 + 8 * src.bit ∧ u.cpu.sp = s.cpu.sp - 2 ∧
      u.cpu.ime = false ∧ u.cpu.imePending = false ∧
      u.bus = (writeAll (s.bus.acknowledge src) (pushStores s s.cpu.pc)).advance 20 := by
  obtain ⟨hvector, hsp, hclear, -, hbus, hframe, htook⟩ := dispatch_does s.consumeEnable src
  have hpending : (s.consumeEnable.dispatch src).cpu.imePending = s.consumeEnable.cpu.imePending :=
    hframe .imePending (by decide)
  refine ⟨_, step_of_lowest_pending hstop hime hset hlowest, ?_, ?_, hclear, ?_, ?_⟩
  · rw [State.settle_cpu, State.cycles_pc, hvector, Source.vector_toNat]
  · rw [State.settle_cpu, State.cycles_sp, hsp, State.consumeEnable_sp]
  · rw [State.settle_cpu, State.cycles_imePending, hpending, State.consumeEnable_imePending]
  · rw [Took] at htook
    simp [hbus, htook, pushStores, Config.intDispatchCycles]

/-- The step that runs `EI`: the flag is set, `IME` is not, and only the `PC` and the
peripherals move besides. -/
theorem step_of_ei {s : State} (hstop : s.cpu.hardStopped = false) (hime : s.cpu.ime = false)
    (hpending : s.cpu.imePending = false) (hhalted : s.cpu.halted = false) (hop : s.bus.read s.cpu.pc = 0xFB) :
    ∃ t, step s = .next t ∧ t.cpu.pc = s.cpu.pc + 1 ∧ t.cpu.sp = s.cpu.sp ∧ t.cpu.ime = false ∧
      t.cpu.imePending = true ∧ t.bus = s.bus.advance 4 := by
  have hfetch : s.fetched = (.ei, 1) := by
    rw [State.fetched, State.memRead, hop]
    rfl
  obtain ⟨u, hnext, hset, hd⟩ := ei_does ((s.consumeEnable.setHalted false).skip 1)
  have hstep := step_of_exec_next hstop (dispatchable_of_ime_false (by simp [hime, hpending]))
    (by simp [State.idles, hhalted]) hfetch hnext
  have hpc : u.cpu.pc = s.consumeEnable.cpu.pc + 1 := hd.frame .pc (by decide)
  have hsp : u.cpu.sp = s.consumeEnable.cpu.sp := hd.frame .sp (by decide)
  have hkept : u.cpu.ime = s.consumeEnable.cpu.ime := hd.frame .ime (by decide)
  have htook : u.cpu.cycleCount = s.consumeEnable.cpu.cycleCount + 4 := hd.took
  have hbus : u.bus = s.consumeEnable.bus := hd.stores
  exact ⟨_, hstep, by simp [hpc], by simp [hsp], by simp [hkept, hime, hpending], hset,
    by simp [hbus, htook]⟩

/-- Settles O39: the flag the first step leaves lets the second dispatch, from the `PC` after
the `EI`. -/
theorem enableInterruptLatency : Obligations.EnableInterruptLatency := by
  intro s hstop hime hpending hhalted hop
  obtain ⟨t, hstep, hpc, hsp, hnot, hset, hbus⟩ := step_of_ei hstop hime hpending hhalted hop
  refine ⟨t, hstep, hpc, hnot, hset, hbus, fun src hsrc hlowest => ?_⟩
  rw [← hpc, ← hsp]
  exact step_dispatches (step_running hstep) (by simp [hset]) hsrc hlowest

end Sys2Proof.Machine

/-!
SUPPORT. The step by its phases (R303 to R306): what phase 1 leaves, and the frame and the
cycles of the step that dispatches, idles or runs an instruction.
-/

namespace Sys2Proof.Machine

/-! ### Frames in sequence -/

theorem Part.Same.trans {p : Part} {s t u : State} (hst : p.Same s t) (htu : p.Same t u) : p.Same s u := by
  cases p <;> exact Eq.trans htu hst

/-- What two runs change in sequence, either of them changes. -/
theorem OnlyChanges.trans {ps qs parts : List Part} {s t u : State} (hst : OnlyChanges ps s t)
    (htu : OnlyChanges qs t u) (hps : ps ⊆ parts) (hqs : qs ⊆ parts) : OnlyChanges parts s u := fun p hp =>
  (hst p fun h => hp (hps h)).trans (htu p fun h => hp (hqs h))

/-- The peripherals reach the bus alone (R97). -/
theorem settle_frame (s t : State) : OnlyChanges [.bus] t (State.settle s t) := by
  intro p hp
  cases p with
  | bus => simp at hp
  | _ => rfl

/-- Cycles that pass in a step, the peripherals with them, reach the bus alone (R31, R97). -/
theorem settle_cycles_frame (s t : State) (n : Nat) : OnlyChanges [.bus] t (State.settle s (t.cycles n)) :=
  (cycles_does n t).frame.trans (settle_frame s _) (by simp) (by simp)

/-! ### Phase 1 (R29) -/

/-- The pending-enable flag moves into `IME`. -/
theorem State.consumeEnable_eq (s : State) :
    s.consumeEnable =
      { s with cpu := { s.cpu with ime := s.cpu.ime || s.cpu.imePending, imePending := false } } := by
  obtain ⟨⟨_, _, _, _, _, _, _, _, _, _, _, imePending, _, _, _⟩, _⟩ := s
  cases imePending <;> simp [State.consumeEnable, State.setIME, State.setImePending]

theorem consumeEnable_frame (s : State) : OnlyChanges [.ime, .imePending] s s.consumeEnable := by
  rw [State.consumeEnable_eq]
  intro p hp
  cases p with
  | ime | imePending => simp at hp
  | reg r => cases r <;> rfl
  | _ => rfl

/-! ### Phase 2: dispatch (R304 to R307) -/

/-- Settles O37: `step_dispatches` gives what the step moves; its frame is that of phase 1,
the dispatch and the peripherals in sequence. -/
theorem interruptDispatch : Obligations.InterruptDispatch := by
  intro s src pending cleared hstop hime hset hlowest
  have hime' : (s.cpu.ime || s.cpu.imePending) = true := by simpa using hime
  obtain ⟨u, hstep, hpc, hsp, hclear, hpending, hbus⟩ := step_dispatches hstop hime' hset hlowest
  cases hstep.symm.trans (step_of_lowest_pending hstop hime' hset hlowest)
  obtain ⟨-, -, -, hhalted, -, hframe, htook⟩ := dispatch_does s.consumeEnable src
  refine ⟨_, hstep, hpc, hsp, hclear, hpending, hhalted, hbus, ?_, ?_⟩
  · rw [Took, State.settle_cpu, State.cycles_cycleCount, htook, State.consumeEnable_cycleCount]
    rfl
  · have hdispatched := (consumeEnable_frame s).trans hframe
      (parts := [.pc, .sp, .ime, .imePending, .halted, .bus]) (by decide) (by decide)
    exact hdispatched.trans (settle_cycles_frame s _ _) (by simp) (by decide)

/-! ### Phase 3: idle (R30) -/

/-- With nothing pending nothing is dispatched, whatever `IME` (R303, R306). -/
theorem dispatchable_of_pending_zero {s : State} (h : s.bus.pending = 0) : s.dispatchable = none := by
  rw [State.dispatchable, (highestSource_none _).mpr h, ite_self]

/-- Settles O38: nothing to dispatch and halted, the step is phase 1 and one cycle-unit. -/
theorem haltedIdleStep : Obligations.HaltedIdleStep := by
  intro s hstop hhalted hpending
  have hnone : s.consumeEnable.dispatchable = none :=
    dispatchable_of_pending_zero (by simpa [Bus.pending] using hpending)
  have hidle : s.consumeEnable.idles = true := by simp [State.idles, Bus.pending, hhalted, hpending]
  refine ⟨_, step_of_idle hstop hnone hidle, ?_, ?_, ?_, ?_, ?_, ?_⟩
  · simpa using hhalted
  · simp
  · simp
  · simp [Config.haltIdleCycles]
  · simp [Took, Config.haltIdleCycles]
  · exact (consumeEnable_frame s).trans (settle_cycles_frame s _ _) (by simp) (by simp)

/-! ### Phase 4: fetch, decode and execute (R111) -/

/-- Three bytes decode to what the fetch window reads: the instruction, and its length. -/
theorem decodeWindow_of_decode {b0 b1 b2 : Byte} {i : Instr} {rest : List Byte}
    (h : decode [b0, b1, b2] = .ok (i, rest)) : decodeWindow b0 b1 b2 = (i, i.size) := by
  have hwindow := decode_three b0 b1 b2
  obtain ⟨hbytes, -⟩ := decode_eq_ok_iff.mp hwindow
  obtain ⟨-, hmax⟩ := decodeWindow_length_bounds b0 b1 b2
  have hlength := congrArg List.length hbytes
  have hinstr : (decodeWindow b0 b1 b2).1 = i := by
    rw [hwindow] at h
    injection h with h
    exact congrArg Prod.fst h
  rw [List.length_append, List.length_drop, ← Instr.size, hinstr] at hlength
  refine Prod.ext hinstr ?_
  simp only [List.length_cons, List.length_nil] at hlength
  omega

/-- Settles O36: the fetch window reads the instruction that the bytes decode to, and its
length. -/
theorem stepRunsDecodedInstruction : Obligations.StepRunsDecodedInstruction := by
  intro s i rest ime pending hstop hquiet hawake hdecode
  obtain ⟨-, hwf⟩ := decode_eq_ok_iff.mp hdecode
  have hnone : s.consumeEnable.dispatchable = none := by
    rcases hquiet with hime | hpending
    · exact dispatchable_of_ime_false (by simpa [ime] using hime)
    · exact dispatchable_of_pending_zero (by simpa [Bus.pending] using hpending)
  have hbusy : s.consumeEnable.idles = false := by
    simpa [State.idles, Bus.pending] using hawake
  have hfetch : s.fetched = (i, i.size) := decodeWindow_of_decode hdecode
  refine ⟨hwf, ?_⟩
  rw [step_of_exec hstop hnone hbusy, State.consumeEnable_fetched, hfetch, State.consumeEnable_eq]
  rfl

end Sys2Proof.Machine

/-!
SUPPORT. The timer (R320 to R323): one tick in numbers, and the count over a run of ticks.
-/

namespace Sys2Proof.Machine

/-! ### One tick (R321 to R323) -/

/-- A bit of a word in numbers. -/
theorem getLsbD_eq_decide {w : Nat} (x : BitVec w) (i : Nat) :
    x.getLsbD i = decide (x.toNat / 2 ^ i % 2 = 1) :=
  Nat.testBit_eq_decide_div_mod_eq

/-- The divider bit of each clock selection (R321). -/
theorem Timer.selectedBit_eq_getD (t : Timer) :
    t.selectedBit = ([9, 3, 5, 7] : List Nat).getD (t.tac.toNat % 4) 0 := by
  have hlt : t.tac.toNat % 4 < 4 := Nat.mod_lt _ (by decide)
  unfold Timer.selectedBit
  interval_cases t.tac.toNat % 4 <;> rfl

/-- The tick counts: enabled, and the selected bit of the divider falls (R321, R323). -/
def Timer.counts (t : Timer) : Bool :=
  t.enabled && t.div16.getLsbD t.selectedBit && !(t.div16 + 1).getLsbD t.selectedBit

/-- One tick: the reload, the divider, the count (R323). -/
theorem Timer.tick_eq (t : Timer) :
    t.tick =
      if t.counts then Timer.count { t.reload with div16 := t.div16 + 1 }
      else { t.reload with div16 := t.div16 + 1 } := by
  obtain ⟨_, _, _, _, reloadPending⟩ := t
  cases reloadPending <;> rfl

theorem Timer.reload_tima (t : Timer) : t.reload.tima = if t.reloadPending then t.tma else t.tima := by
  unfold Timer.reload
  split <;> rfl
@[simp] theorem Timer.reload_tma (t : Timer) : t.reload.tma = t.tma := by
  unfold Timer.reload
  split <;> rfl
@[simp] theorem Timer.reload_tac (t : Timer) : t.reload.tac = t.tac := by
  unfold Timer.reload
  split <;> rfl
/-- The reload is done once (R322). -/
@[simp] theorem Timer.reload_reloadPending (t : Timer) : t.reload.reloadPending = false := by
  unfold Timer.reload
  split
  · rfl
  · next h => simpa using h

@[simp] theorem Timer.count_div16 (t : Timer) : t.count.div16 = t.div16 := by
  unfold Timer.count
  split <;> rfl
@[simp] theorem Timer.count_tma (t : Timer) : t.count.tma = t.tma := by
  unfold Timer.count
  split <;> rfl
@[simp] theorem Timer.count_tac (t : Timer) : t.count.tac = t.tac := by
  unfold Timer.count
  split <;> rfl
/-- The overflow to 0x00 is the sum modulo 256 (R322). -/
@[simp] theorem Timer.count_tima (t : Timer) : t.count.tima = t.tima + 1 := by
  unfold Timer.count
  split
  · next h => simp [h]
  · rfl
theorem Timer.count_reloadPending (t : Timer) :
    t.count.reloadPending = (decide (t.tima = 0xFF) || t.reloadPending) := by
  unfold Timer.count
  split <;> simp_all

@[simp] theorem Timer.tick_div16 (t : Timer) : t.tick.div16 = t.div16 + 1 := by
  rw [Timer.tick_eq]
  split <;> simp
@[simp] theorem Timer.tick_tma (t : Timer) : t.tick.tma = t.tma := by
  rw [Timer.tick_eq]
  split <;> simp
@[simp] theorem Timer.tick_tac (t : Timer) : t.tick.tac = t.tac := by
  rw [Timer.tick_eq]
  split <;> simp
theorem Timer.tick_tima (t : Timer) :
    t.tick.tima = if t.counts then t.reload.tima + 1 else t.reload.tima := by
  rw [Timer.tick_eq]
  split <;> simp
theorem Timer.tick_reloadPending (t : Timer) :
    t.tick.reloadPending = (t.counts && decide (t.reload.tima = 0xFF)) := by
  rw [Timer.tick_eq]
  split <;> simp_all [Timer.count_reloadPending]

/-- The 1-to-0 transition in numbers. -/
theorem Timer.counts_eq_decide (t : Timer) :
    t.counts =
      (t.tac.getLsbD 2 &&
        (decide (t.div16.toNat / 2 ^ t.selectedBit % 2 = 1) &&
          decide ((t.div16.toNat + 1) % 0x10000 / 2 ^ t.selectedBit % 2 = 0))) := by
  have hdiv : (t.div16 + 1).toNat = (t.div16.toNat + 1) % 0x10000 := BitVec.toNat_add t.div16 1
  rw [Timer.counts, Timer.enabled, getLsbD_eq_decide t.div16, getLsbD_eq_decide (t.div16 + 1), hdiv,
    ← decide_not, Bool.and_assoc]
  simp only [Nat.mod_two_not_eq_one]

/-- A tick changes the timer and, if it reloads, requests the timer interrupt. -/
theorem Bus.timerTick_eq (b : Bus) :
    b.timerTick =
      { b with timer := b.timer.tick, iff := if b.timer.reloadPending then b.iff ||| 0b00100 else b.iff } := by
  unfold Bus.timerTick Timer.tickRequests Source.maskIf
  split
  · rfl
  · simp [Bus.request]

/-- Settles O57: the reload comes before the count, and the count is the transition of the
selected bit in numbers. -/
theorem timerTick : Obligations.TimerTick := by
  intro b t bit div falls counts tima u
  have hu : u = { b with timer := t.tick, iff := if t.reloadPending then b.iff ||| 0b00100 else b.iff } :=
    b.timerTick_eq
  have hcounts : t.counts = counts := by rw [Timer.counts_eq_decide, Timer.selectedBit_eq_getD]
  have htima : t.reload.tima.toNat = tima := by rw [Timer.reload_tima, apply_ite BitVec.toNat]
  rw [hu]
  refine ⟨?_, ?_, ?_, t.tick_tma, t.tick_tac, rfl⟩
  · rw [Timer.tick_div16]
    exact BitVec.toNat_add t.div16 1
  · rw [Timer.tick_tima, hcounts, apply_ite BitVec.toNat, htima, BitVec.toNat_add, htima]
    rfl
  · rw [Timer.tick_reloadPending, hcounts, ← htima]
    exact congrArg (counts && ·) (decide_eq_decide.mpr BitVec.toNat_inj.symm)

/-! ### A run of ticks (R320, R321) -/

/-- The cycle-units in which the selected bit falls once (R321). -/
def Timer.period (t : Timer) : Nat := 2 ^ (t.selectedBit + 1)

theorem Timer.selectedBit_cases (t : Timer) :
    t.selectedBit = 9 ∨ t.selectedBit = 3 ∨ t.selectedBit = 5 ∨ t.selectedBit = 7 := by
  unfold Timer.selectedBit
  split <;> simp

theorem Timer.period_eq_getD (t : Timer) :
    t.period = ([1024, 16, 64, 256] : List Nat).getD (t.tac.toNat % 4) 0 := by
  have hlt : t.tac.toNat % 4 < 4 := Nat.mod_lt _ (by decide)
  rw [Timer.period, Timer.selectedBit_eq_getD]
  interval_cases t.tac.toNat % 4 <;> rfl

@[simp] theorem Timer.tick_period (t : Timer) : t.tick.period = t.period := by
  simp [Timer.period_eq_getD]

/-- The bit falls where the divider reaches a multiple of the period. -/
theorem Timer.counts_eq_decide_period {t : Timer} (hon : t.tac.getLsbD 2 = true) :
    t.counts = decide ((t.div16.toNat + 1) % t.period = 0) := by
  rw [Timer.counts_eq_decide, hon, Bool.true_and, ← Bool.decide_and, decide_eq_decide, Timer.period]
  rcases t.selectedBit_cases with h | h | h | h <;> rw [h] <;> omega

/-- How often the counter counts in the next `c` cycle-units, while enabled. -/
def Timer.countsWithin (t : Timer) (c : Nat) : Nat := (t.div16.toNat % t.period + c) / t.period

theorem Timer.countsWithin_zero (t : Timer) : t.countsWithin 0 = 0 :=
  Nat.div_eq_of_lt (Nat.mod_lt _ (Nat.two_pow_pos _))

/-- Exactly once in a period, wherever the divider stands. -/
theorem Timer.countsWithin_period (t : Timer) : t.countsWithin t.period = 1 := by
  have hpos : 0 < t.period := Nat.two_pow_pos _
  rw [Timer.countsWithin, Nat.add_div_right _ hpos, Nat.div_eq_of_lt (Nat.mod_lt _ hpos)]

/-- Of the counts in a run, the first tick makes one or none. -/
theorem Timer.countsWithin_succ {t : Timer} (hon : t.tac.getLsbD 2 = true) (c : Nat) :
    t.countsWithin (c + 1) = t.counts.toNat + t.tick.countsWithin c := by
  have hdiv : (t.div16 + 1).toNat = (t.div16.toNat + 1) % 0x10000 := BitVec.toNat_add t.div16 1
  rw [Timer.counts_eq_decide_period hon, Timer.countsWithin, Timer.countsWithin, Timer.tick_period,
    Timer.tick_div16, hdiv, Timer.period]
  rcases t.selectedBit_cases with h | h | h | h <;> rw [h, Bool.toNat, Bool.cond_decide] <;>
    split <;> omega

/-- Short of an overflow, a tick adds its count and leaves no reload pending. -/
theorem Timer.tick_of_room {t : Timer} (hreload : t.reloadPending = false)
    (hroom : t.tima.toNat + t.counts.toNat ≤ 0xFF) :
    t.tick.tima.toNat = t.tima.toNat + t.counts.toNat ∧ t.tick.reloadPending = false := by
  have htima : t.reload.tima = t.tima := by simp [Timer.reload_tima, hreload]
  rw [Timer.tick_tima, Timer.tick_reloadPending, htima]
  cases hcounts : t.counts with
  | false => simp
  | true =>
    rw [hcounts, Bool.toNat_true] at hroom
    have hne : t.tima ≠ 0xFF := by bv_omega
    have hsum : (t.tima + 1).toNat = t.tima.toNat + 1 := by bv_omega
    exact ⟨hsum, decide_eq_false hne⟩

/-- Short of an overflow, a run of ticks adds its counts and requests nothing. -/
theorem Bus.timerAdvance_of_room (b : Bus) (c : Nat) (hon : b.timer.tac.getLsbD 2 = true)
    (hreload : b.timer.reloadPending = false) (hroom : b.timer.tima.toNat + b.timer.countsWithin c ≤ 0xFF) :
    (b.timerAdvance c).timer.tima.toNat = b.timer.tima.toNat + b.timer.countsWithin c ∧
      (b.timerAdvance c).timer.reloadPending = false ∧ (b.timerAdvance c).iff = b.iff := by
  induction c generalizing b with
  | zero => exact ⟨by rw [Timer.countsWithin_zero]; rfl, hreload, rfl⟩
  | succ c ih =>
    have hsplit := Timer.countsWithin_succ hon c
    obtain ⟨htima, hshort⟩ := Timer.tick_of_room hreload (by omega)
    have hticked : b.timerTick = { b with timer := b.timer.tick } := by simp [Bus.timerTick_eq, hreload]
    obtain ⟨htimas, hpending, hiff⟩ :=
      ih { b with timer := b.timer.tick } (by simpa using hon) hshort (by simp only; omega)
    rw [Bus.timerAdvance, hticked]
    exact ⟨htimas.trans (by simp only; omega), hpending, hiff⟩

/-- Settles O58: the period of the selection holds exactly one count. -/
theorem timerPeriod : Obligations.TimerPeriod := by
  intro b period hon hreload hroom
  have hperiod : b.timer.countsWithin period = 1 := by
    rw [show period = b.timer.period from b.timer.period_eq_getD.symm, Timer.countsWithin_period]
  have h := b.timerAdvance_of_room period hon hreload (by omega)
  rwa [hperiod] at h

end Sys2Proof.Machine

/-!
SUPPORT. The PPU (R312, R334): its position in the frame as one number, what one
cycle-unit requests and leaves there, and a frame of cycle-units.
-/

namespace Sys2Proof.Machine

/-! ### The position in the frame (R334) -/

/-- The cycle-units of a frame before the position. -/
def Ppu.position (p : Ppu) : Nat := p.line * 456 + p.dot

/-- The cycle-units of a frame before the position one cycle-unit later. -/
def Ppu.next (p : Ppu) : Nat := (p.position + 1) % 70224

/-- Scanline and cycle-unit of the next position are the quotient and the remainder. -/
theorem Ppu.nextPosition_eq {p : Ppu} (h : p.Inv) :
    Ppu.nextPosition p.line p.dot = (p.next / 456, p.next % 456) := by
  have hline : p.line < 154 := h.line
  have hdot : p.dot < 456 := h.dot
  unfold Ppu.nextPosition Ppu.next Ppu.position Config.dotsPerLine Config.linesPerFrame
  split_ifs <;> ext <;> simp only <;> omega

/-! ### The mode a position enters (R334) -/

/-- STAT with a mode in bits 1:0, in numbers (log 16). -/
theorem Ppu.statWithMode_eq_ofNat (stat : Byte) (m : PpuMode) :
    Ppu.statWithMode stat m = BitVec.ofNat 8 (stat.toNat / 4 * 4 + m.number.toNat) := by
  revert stat
  cases m <;> decide

theorem Ppu.entered_eq (line dot : Nat) :
    Ppu.entered line dot =
      if line < 144 ∧ dot = 0 then some .oamSearch
      else if line < 144 ∧ dot = 80 then some .transfer
      else if line < 144 ∧ dot = 252 then some .hblank
      else if line = 144 ∧ dot = 0 then some .vblank
      else none := by
  unfold Ppu.entered Config.visibleLines Config.oamSearchDots Config.pixelTransferDots
  by_cases h : line < 144
  · simp [h, h.ne]
  · simp [h]

theorem Ppu.tick_eq {p : Ppu} (h : p.Inv) :
    p.tick =
      { p with
        line := p.next / 456
        dot := p.next % 456
        ly := if p.next % 456 = 0 then BitVec.ofNat 8 (p.next / 456) else p.ly
        stat := p.tick.stat } := by
  rw [Ppu.tick, Ppu.nextPosition_eq h]

/-- A mode that is entered is written to bits 1:0 of STAT, every other bit is kept (log 16). -/
theorem Ppu.tick_stat {p : Ppu} (h : p.Inv) :
    p.tick.stat = BitVec.ofNat 8 (p.stat.toNat / 4 * 4 +
      if p.next / 456 < 144 ∧ p.next % 456 = 0 then 2
      else if p.next / 456 < 144 ∧ p.next % 456 = 80 then 3
      else if p.next / 456 < 144 ∧ p.next % 456 = 252 then 0
      else if p.next / 456 = 144 ∧ p.next % 456 = 0 then 1
      else p.stat.toNat % 4) := by
  simp only [Ppu.tick, Ppu.nextPosition_eq h, Ppu.entered_eq]
  split_ifs
  · exact statWithMode_eq_ofNat p.stat .oamSearch
  · exact statWithMode_eq_ofNat p.stat .transfer
  · exact statWithMode_eq_ofNat p.stat .hblank
  · exact statWithMode_eq_ofNat p.stat .vblank
  · simp [Nat.div_add_mod']

/-! ### Requests (R312) -/

theorem Source.mask_getLsbD (src : Source) (j : Nat) : src.mask.getLsbD j = decide (j = src.bit) := by
  have hbit : src.bit < 5 := by cases src <;> decide
  rw [Source.mask, BitVec.getLsbD_ofNat, Nat.testBit_two_pow, ← Bool.decide_and, decide_eq_decide]
  omega

theorem Source.maskIf_getLsbD (src : Source) (raised : Bool) (j : Nat) :
    (src.maskIf raised).getLsbD j = (raised && decide (j = src.bit)) := by
  cases raised <;> simp [Source.maskIf, Source.mask_getLsbD]

theorem Ppu.entered_beq_vblank (line dot : Nat) :
    (Ppu.entered line dot == some .vblank) = decide (line = 144 ∧ dot = 0) := by
  rw [Ppu.entered_eq, beq_eq_decide, decide_eq_decide]
  by_cases hline : line < 144
  · simp only [hline, hline.ne, true_and, false_and, if_false, iff_false]
    split_ifs <;> decide
  · simp [hline]

/-- The mode entries of R312, each under its enable bit. -/
theorem Ppu.entered_any_enabled (p : Ppu) (line dot : Nat) :
    (Ppu.entered line dot).any p.modeEntryEnabled =
      ((p.stat.getLsbD 3 && decide (line < 144) && decide (dot = 252)) ||
        (p.stat.getLsbD 4 && decide (line = 144) && decide (dot = 0)) ||
        (p.stat.getLsbD 5 && decide (line < 144) && decide (dot = 0))) := by
  rw [Ppu.entered_eq]
  by_cases hline : line < 144
  · simp only [hline, hline.ne, true_and, false_and, if_false]
    split_ifs <;> simp [Ppu.modeEntryEnabled, *]
  · simp only [hline, false_and, if_false]
    split_ifs <;> simp_all [Ppu.modeEntryEnabled]

theorem Ppu.tickRequests_eq {p : Ppu} (h : p.Inv) :
    p.tickRequests =
      Source.vblank.maskIf (Ppu.entered (p.next / 456) (p.next % 456) == some .vblank) |||
        Source.stat.maskIf ((Ppu.entered (p.next / 456) (p.next % 456)).any p.modeEntryEnabled ||
          p.lineCompare (p.next / 456) (p.next % 456)) := by
  rw [Ppu.tickRequests, Ppu.nextPosition_eq h]
  cases Ppu.entered (p.next / 456) (p.next % 456) <;> rfl

/-- Vertical-blank is requested on entering scanline 144. -/
theorem Ppu.tickRequests_vblank {p : Ppu} (h : p.Inv) :
    p.tickRequests.getLsbD 0 = decide (p.next / 456 = 144 ∧ p.next % 456 = 0) := by
  rw [Ppu.tickRequests_eq h, BitVec.getLsbD_or, Source.maskIf_getLsbD, Source.maskIf_getLsbD,
    Ppu.entered_beq_vblank]
  simp [Source.bit]

/-- LCD-status is requested on an enabled mode entry and on the line compare. -/
theorem Ppu.tickRequests_stat {p : Ppu} (h : p.Inv) :
    p.tickRequests.getLsbD 1 =
      ((Ppu.entered (p.next / 456) (p.next % 456)).any p.modeEntryEnabled ||
        p.lineCompare (p.next / 456) (p.next % 456)) := by
  rw [Ppu.tickRequests_eq h, BitVec.getLsbD_or, Source.maskIf_getLsbD, Source.maskIf_getLsbD]
  simp [Source.bit]

theorem Ppu.tickRequests_other (p : Ppu) {j : Nat} (hj : 2 ≤ j) : p.tickRequests.getLsbD j = false := by
  have h0 : j ≠ 0 := by omega
  have h1 : j ≠ 1 := by omega
  simp only [Ppu.tickRequests, BitVec.getLsbD_or, Source.maskIf_getLsbD, Source.bit, h0, h1, decide_false,
    Bool.and_false, Bool.or_false]

@[simp] theorem Bus.ppuTick_ppu (b : Bus) : b.ppuTick.ppu = b.ppu.tick := rfl

@[simp] theorem Bus.ppuTick_iff (b : Bus) : b.ppuTick.iff = b.iff ||| b.ppu.tickRequests := rfl

/-- Settles O60: the position the cycle-unit reaches decides the requests and the registers. -/
theorem ppuTick : Obligations.PpuTick := by
  intro b h p n line dot visible status mode ly stat u
  refine ⟨?_, ?_, ?_, ?_, rfl⟩
  · show p.tick = _
    rw [Ppu.tick_eq h, Ppu.tick_stat h]
    rfl
  · rw [Bus.ppuTick_iff, BitVec.getLsbD_or, Ppu.tickRequests_vblank h]
    rfl
  · rw [Bus.ppuTick_iff, BitVec.getLsbD_or, Ppu.tickRequests_stat h, Ppu.entered_any_enabled, Ppu.lineCompare,
      Bool.and_comm (decide _) (p.stat.getLsbD 6)]
    rfl
  · intro j hj
    rw [Bus.ppuTick_iff, BitVec.getLsbD_or, Ppu.tickRequests_other _ hj, Bool.or_false]

/-! ### A frame of cycle-units (R334) -/

theorem Ppu.position_lt {p : Ppu} (h : p.Inv) : p.position < 70224 := by
  have hline : p.line < 154 := h.line
  have hdot : p.dot < 456 := h.dot
  unfold Ppu.position
  omega

/-- The position determines scanline and cycle-unit. -/
theorem Ppu.line_dot_eq {p : Ppu} (h : p.Inv) : p.line = p.position / 456 ∧ p.dot = p.position % 456 := by
  have hdot : p.dot < 456 := h.dot
  unfold Ppu.position
  omega

theorem Ppu.tick_position {p : Ppu} (h : p.Inv) : p.tick.position = p.next := by
  rw [Ppu.tick_eq h]
  exact Nat.div_add_mod' p.next 456

theorem Bus.ppuAdvance_succ (b : Bus) (c : Nat) : b.ppuAdvance (c + 1) = (b.ppuAdvance c).ppuTick := by
  induction c generalizing b with
  | zero => rfl
  | succ c ih => exact ih b.ppuTick

theorem Bus.ppuAdvance_position {b : Bus} (h : b.ppu.Inv) (c : Nat) :
    (b.ppuAdvance c).ppu.position = (b.ppu.position + c) % 70224 := by
  induction c with
  | zero => rw [Nat.add_zero, Nat.mod_eq_of_lt (Ppu.position_lt h), Bus.ppuAdvance]
  | succ c ih =>
    rw [Bus.ppuAdvance_succ, Bus.ppuTick_ppu, Ppu.tick_position (b.ppuAdvance_ppu_inv c h), Ppu.next, ih]
    omega

/-- The vertical-blank request comes one cycle-unit before scanline 144. -/
theorem Bus.ppuAdvance_requests_vblank {b : Bus} (h : b.ppu.Inv) (c : Nat) :
    (b.ppuAdvance c).ppu.tickRequests.getLsbD 0 = true ↔ (b.ppu.position + c) % 70224 = 65663 := by
  rw [Ppu.tickRequests_vblank (b.ppuAdvance_ppu_inv c h), Ppu.next, b.ppuAdvance_position h, decide_eq_true_eq]
  omega

/-- A request stays for the rest of the run (R310). -/
theorem Bus.ppuAdvance_keeps_request {b : Bus} {k c i : Nat}
    (hk : (b.ppuAdvance k).ppu.tickRequests.getLsbD i = true) (hkc : k < c) :
    (b.ppuAdvance c).iff.getLsbD i = true := by
  induction c, hkc using Nat.le_induction with
  | base => rw [Bus.ppuAdvance_succ, Bus.ppuTick_iff, BitVec.getLsbD_or, hk, Bool.or_true]
  | succ c _ ih => rw [Bus.ppuAdvance_succ, Bus.ppuTick_iff, BitVec.getLsbD_or, ih, Bool.true_or]

/-- Settles O59: a frame adds a multiple of its length to the position, and one of its
cycle-units starts where the vertical-blank request comes. -/
theorem oneVerticalBlankPerFrame : Obligations.OneVerticalBlankPerFrame := by
  intro b h
  have hlt : b.ppu.position < 70224 := Ppu.position_lt h
  have hposition : ∀ c, (b.ppuAdvance c).ppu.line = (b.ppu.position + c) % 70224 / 456 ∧
      (b.ppuAdvance c).ppu.dot = (b.ppu.position + c) % 70224 % 456 := fun c => by
    rw [← b.ppuAdvance_position h]
    exact Ppu.line_dot_eq (b.ppuAdvance_ppu_inv c h)
  obtain ⟨k, hk, hvblank⟩ : ∃ k, k < 70224 ∧ ∀ j, j < 70224 →
      ((b.ppuAdvance j).ppu.tickRequests.getLsbD 0 = true ↔ j = k) := by
    refine ⟨(65663 + (70224 - b.ppu.position)) % 70224, Nat.mod_lt _ (by decide), fun j hj => ?_⟩
    rw [b.ppuAdvance_requests_vblank h]
    omega
  have hframe : (b.ppu.position + 70224) % 70224 = b.ppu.position := by omega
  obtain ⟨hline, hdot⟩ := Ppu.line_dot_eq h
  obtain ⟨hline', hdot'⟩ := hposition 70224
  rw [hframe] at hline' hdot'
  refine ⟨hline'.trans hline.symm, hdot'.trans hdot.symm, ⟨k, hk, hvblank⟩,
    Bus.ppuAdvance_keeps_request ((hvblank k hk).mpr rfl) hk, fun hzero hstart => ?_⟩
  have hpos : b.ppu.position = 0 := by rw [Ppu.position, hzero, hstart]
  obtain ⟨hline144, hdot0⟩ := hposition 65664
  rw [hpos] at hline144 hdot0
  exact ⟨(b.ppuAdvance_requests_vblank h 65663).mpr (by rw [hpos]), hline144, hdot0⟩

end Sys2Proof.Machine

/-!
SUPPORT. The operations of the host (R90, R100, R314, R351): the joypad request, and the
bytes of a loaded image.
-/

namespace Sys2Proof.Machine

/-! ### set_button (R314) -/

/-- A press requests bit 4, and no other. -/
theorem State.setButton_iff_getLsbD (s : State) (pressed : Bool) (j : Nat) :
    (s.setButton pressed).bus.iff.getLsbD j = (s.bus.iff.getLsbD j || (pressed && decide (j = 4))) := by
  rw [State.setButton, Bus.request, BitVec.getLsbD_or, Source.maskIf_getLsbD, Source.bit]

theorem State.setButton_released (s : State) : s.setButton false = s := by
  simp [State.setButton, Source.maskIf, Bus.request]

/-! ### power_on (R90, R351) -/

/-- Loading bytes at rising indexes lists exactly them, over what was listed. -/
theorem Memory.lookup_load (m : Memory) (k : Nat) (bytes : List Byte) (q : Nat) :
    Memory.lookup (Memory.load m k bytes) q =
      if k ≤ q ∧ q < k + bytes.length then bytes[q - k]? else Memory.lookup m q := by
  induction bytes generalizing m k with
  | nil => rw [Memory.load, if_neg (by simp)]
  | cons v rest ih =>
    rw [Memory.load, ih, List.length_cons]
    rcases lt_trichotomy q k with hlt | rfl | hgt
    · rw [if_neg (by omega), if_neg (by omega), Memory.lookup_put_other _ _ _ _ hlt.ne]
    · rw [if_neg (by omega), if_pos (by omega), Memory.lookup_put_same, Nat.sub_self, List.getElem?_cons_zero]
    · rw [Memory.lookup_put_other _ _ _ _ hgt.ne', show q - k = q - (k + 1) + 1 by omega, List.getElem?_cons_succ]
      congr 1
      simp only [eq_iff_iff]
      omega

/-- The ROM of a loaded image is the image (R38, log 3). -/
theorem Cartridge.romByte_load (c : Cartridge) (image : List Byte) {k : Nat} (hk : k < image.length) :
    Cartridge.romByte { c with rom := Memory.load [] 0 image } k = image.getD k 0 := by
  rw [Cartridge.romByte, Memory.lookup_load, if_pos (by omega), Nat.sub_zero, List.getElem?_eq_getElem hk,
    Option.getD_some, List.getD_eq_getElem _ _ hk]

theorem State.powerOn_supported (v : CartVariant) {image : List Byte} (ramSize : Nat) (h : image ≠ []) :
    State.powerOn (.supported v) image ramSize =
      .ok (State.fresh v image.length ramSize (Memory.load [] 0 image)) := by
  rw [State.powerOn, List.isEmpty_eq_false_iff.mpr h]
  rfl

/-- Settles O56: a press is one request bit, host access is bus access, and a session's ROM
lists the loaded image. -/
theorem hostOperations : Obligations.HostOperations := by
  refine ⟨fun s a v => ⟨rfl, rfl, ?_, fun j hj => ?_, s.setButton_released, rfl, rfl, rfl⟩,
    fun v image ramSize => ⟨rfl, rfl, fun himage => ?_⟩⟩
  · simp only [State.setButton_iff_getLsbD, decide_true, Bool.and_true, Bool.or_true]
  · simp only [State.setButton_iff_getLsbD, hj, decide_false, Bool.and_false, Bool.or_false]
  · exact ⟨_, State.powerOn_supported v ramSize himage, rfl, fun k hk =>
      Cartridge.romByte_load (Cartridge.fresh v image.length ramSize []) image hk⟩

end Sys2Proof.Machine

/-!
SUPPORT. Reset and the cost of a step (R350 to R352, R361, R362): the state after power-on,
the invariant it meets, and the first step from it.
-/

namespace Sys2Proof.Machine

/-! ### The cost of a step (R31, R361) -/

/-- Settles O43: a dispatch costs 20 cycle-units, an idle step 1, an instruction 1 to 24 by
`exec_ran`, and the peripherals count none. -/
theorem stepCostBounds : Obligations.StepCostBounds := by
  intro s t h
  obtain ⟨-, ⟨src, -, rfl⟩ | ⟨-, -, rfl⟩ | ⟨-, -, u, hu, rfl⟩⟩ := step_cases h
  · obtain ⟨-, -, -, -, -, -, htook⟩ := dispatch_does s.consumeEnable src
    have hcost : (s.consumeEnable.dispatch src).cpu.cycleCount = s.cpu.cycleCount := by
      simpa [Took] using htook
    simp [hcost, Config.intDispatchCycles]
  · simp [Config.haltIdleCycles]
  · obtain ⟨_, n, hd, -, hmin, hmax⟩ := exec_ran hu
    have hcost : u.cpu.cycleCount = s.consumeEnable.cpu.cycleCount + n := hd.took
    rw [State.settle_cpu, hcost, State.consumeEnable_cycleCount]
    omega

/-! ### The controller after power-on (R350) -/

theorem Controller.powerOn_lowBank (v : CartVariant) : (Controller.powerOn v).lowBank = 0 := by
  cases v <;> rfl

theorem Controller.powerOn_highBank (v : CartVariant) : (Controller.powerOn v).highBank = 1 := by
  cases v <;> rfl

theorem Controller.powerOn_inv (v : CartVariant) : (Controller.powerOn v).Inv := by
  cases v with
  | fixed | extended => trivial
  | simple =>
    show (1 : BitVec 5) ≠ 0
    decide
  | rtc =>
    show (1 : BitVec 7) ≠ 0
    decide

/-! ### The first step (R352) -/

/-- Settles O48: the low window is bank 0 for every variant, and with `IME` clear and the CPU
awake phases 1 to 3 leave the state as it is. -/
theorem firstStepFetchesRom : Obligations.FirstStepFetchesRom := by
  intro v romSize ramSize rom s
  constructor
  · have hbank : s.bus.cart.controller.lowBank = 0 := Controller.powerOn_lowBank v
    have hpc : s.cpu.pc = 0x0100 := rfl
    rw [hpc, s.bus.read_lowWindow (by decide), hbank]
    rfl
  · have hnone : s.consumeEnable.dispatchable = none := dispatchable_of_ime_false rfl
    rw [step_of_exec rfl hnone rfl]
    rfl

/-! ### The invariant of a session (R351) -/

/-- Loading keeps the canonical form: it is a write for each byte. -/
theorem Memory.wf_load (m : Memory) (k : Nat) (bytes : List Byte) (hm : Memory.wf m = true) :
    Memory.wf (Memory.load m k bytes) = true := by
  induction bytes generalizing m k with
  | nil => exact hm
  | cons v rest ih => exact ih _ _ (m.wf_put k v hm)

/-- Loading lists no other index than those of the bytes loaded. -/
theorem Memory.within_load (m : Memory) (p : Nat → Bool) (k : Nat) (bytes : List Byte)
    (hm : Memory.within m p = true) (hp : ∀ j, j < k + bytes.length → p j = true) :
    Memory.within (Memory.load m k bytes) p = true := by
  induction bytes generalizing m k with
  | nil => exact hm
  | cons v rest ih =>
    rw [List.length_cons] at hp
    exact ih _ _ (m.within_put p k v hm (hp k (by omega))) fun j hj => hp j (by omega)

theorem Ppu.powerOn_inv : Ppu.powerOn.Inv where
  line := by decide
  dot := by decide

/-- A fresh session meets the invariant if its ROM is in canonical form and inside an image
of at least one byte. -/
theorem State.fresh_inv (v : CartVariant) {romSize : Nat} (ramSize : Nat) {rom : Memory} (hsize : 0 < romSize)
    (hwf : Memory.wf rom = true) (hwithin : Memory.within rom (fun k => decide (k < romSize)) = true) :
    (State.fresh v romSize ramSize rom).Inv where
  bus :=
    { memWf := rfl
      memWithin := rfl
      cart :=
        { romSize := hsize
          romWf := hwf
          romWithin := hwithin
          ramWf := rfl
          ramWithin := rfl
          controller := Controller.powerOn_inv v }
      ppu := Ppu.powerOn_inv }
  running := rfl

/-- `power_on` answers a session only for a supported variant and an image with a byte. -/
theorem State.powerOn_ok {t : ControllerType} {image : List Byte} {ramSize : Nat} {s : State}
    (h : State.powerOn t image ramSize = .ok s) :
    ∃ v, image ≠ [] ∧ s = State.fresh v image.length ramSize (Memory.load [] 0 image) := by
  cases t with
  | unsupported => cases h
  | supported v =>
    by_cases himage : image = []
    · subst himage
      cases h
    · rw [State.powerOn_supported v ramSize himage] at h
      injection h with h
      exact ⟨v, himage, h.symm⟩

/-- Settles O46: a loaded image is in canonical form and inside itself. -/
theorem resetMeetsInvariant : Obligations.ResetMeetsInvariant := by
  refine ⟨reset_inv, fun t image ramSize s h => ?_⟩
  obtain ⟨v, himage, rfl⟩ := State.powerOn_ok h
  refine State.fresh_inv v ramSize (List.length_pos_iff.mpr himage) (Memory.wf_load _ _ _ rfl) ?_
  exact Memory.within_load _ _ _ _ rfl fun j hj => decide_eq_true (by omega)

/-! ### The state after power-on (R350) -/

theorem packF_powerOn : packF Cpu.powerOn.flags = 0xB0 := by decide

theorem Bus.read_timer (b : Bus) {a : Word} {r : TimerReg} (h : route a = .timer r) : b.read a = b.timer.read r := by
  rw [Bus.read, h]

theorem Timer.powerOn_read_div : Timer.powerOn.read .div = 0xAB := by decide

theorem Timer.powerOn_read_tac : Timer.powerOn.read .tac = 0xF8 := by decide

theorem Bus.read_ppu (b : Bus) {a : Word} {r : PpuReg} (h : route a = .ppu r) : b.read a = b.ppu.read r := by
  rw [Bus.read, h]

/-- No source is enabled: IE reads its three unstored bits alone (R33). -/
theorem Bus.powerOn_read_ie (cart : Cartridge) : (Bus.powerOn cart).read 0xFFFF = 0xE0 := by
  rw [Bus.read, route_FFFF]
  show (0xE0 : Byte) ||| (0 : BitVec 5).zeroExtend 8 = 0xE0
  decide

/-- The vertical-blank request is set (R34). -/
theorem Bus.powerOn_read_iff (cart : Cartridge) : (Bus.powerOn cart).read 0xFF0F = 0xE1 := by
  rw [Bus.read, route_FF0F]
  show (0xE0 : Byte) ||| (1 : BitVec 5).zeroExtend 8 = 0xE1
  decide

/-- The joypad, serial and DMA registers read the bytes they hold (R36, R80). -/
theorem Bus.powerOn_read_stored (cart : Cartridge) :
    (Bus.powerOn cart).read 0xFF00 = 0xCF ∧ (Bus.powerOn cart).read 0xFF01 = 0x00 ∧
      (Bus.powerOn cart).read 0xFF02 = 0x7E ∧ (Bus.powerOn cart).read 0xFF46 = 0xFF := by
  simp only [Bus.read, route_FF00, route_FF01, route_FF02, route_FF46]
  exact ⟨rfl, rfl, rfl, rfl⟩

/-- Settles O47: the variant decides nothing but the controller, and each register reads a
field of a power-on record. The parts are the CPU, IE and IF, the timer, the joypad and
serial registers, the PPU with the DMA register, and the cartridge with the memories. -/
theorem powerOnState : Obligations.PowerOnState := by
  intro v romSize ramSize rom s
  obtain ⟨hp1, hsb, hsc, hdma⟩ := Bus.powerOn_read_stored (Cartridge.fresh v romSize ramSize rom)
  refine ⟨
    rfl, rfl, packF_powerOn, rfl, rfl, rfl, rfl, rfl, rfl, rfl, rfl, rfl, rfl, rfl, rfl, rfl,
    rfl, Bus.powerOn_read_ie _, rfl, Bus.powerOn_read_iff _,
    rfl, (s.bus.read_timer route_FF04).trans Timer.powerOn_read_div, s.bus.read_timer route_FF05,
    s.bus.read_timer route_FF06, rfl, (s.bus.read_timer route_FF07).trans Timer.powerOn_read_tac, rfl,
    hp1, hsb, hsc,
    s.bus.read_ppu route_FF40, s.bus.read_ppu route_FF41, s.bus.read_ppu route_FF42,
    s.bus.read_ppu route_FF43, s.bus.read_ppu route_FF44, s.bus.read_ppu route_FF45, hdma,
    s.bus.read_ppu route_FF47, s.bus.read_ppu route_FF48, s.bus.read_ppu route_FF49,
    s.bus.read_ppu route_FF4A, s.bus.read_ppu route_FF4B,
    Controller.powerOn_highBank v, rfl, rfl, rfl, ?_⟩
  cases v with
  | fixed => rfl
  | simple | rtc => exact ⟨rfl, rfl, rfl, rfl⟩
  | extended => exact ⟨rfl, rfl, rfl⟩

end Sys2Proof.Machine
